-- ==== Sys2Proof/Word.lean ====
section
/-! DEFINITION. The word types of FSYNC (00_scope.md R7, R9): one stream byte, one 32-bit register
word, one 12-bit register-block offset, one 48-bit operation descriptor (30_encoding.md R80). -/
namespace Sys2Proof

/-- One datum of the byte stream, and one byte of `BUF` (R7, R23). -/
abbrev Byte := BitVec 8

/-- One register or bus word (R7, R61). -/
abbrev Word := BitVec 32

/-- A byte offset within the register block, 0x000 to 0xFFF (R7, R60). -/
abbrev Offset := BitVec 12

/-- A 48-bit operation descriptor (R80). -/
abbrev Descriptor := BitVec 48

end Sys2Proof
end

