-- ==== Sys2Proof/Syntax.lean ====
section
/-! DEFINITION. The operations of FSYNC: one constructor per row of opcode_table.json (30_encoding.md
R84), carrying the operands that row gives the operation. A descriptor's ignored bits are no
operands (R81 to R83; log 12). -/
namespace Sys2Proof

/-- One atomic step of one agent. The names are the table's mnemonics. -/
inductive Instr
  | rdCtrl
  | wrCtrl (data : Word)
  | rdStatus
  | wrStatus (data : Word)
  | rdCmd
  | cmdAccept
  | cmdReject
  | cmdSoftReset
  /-- A `CMD` write whose code is none of 0x1, 0x2 and 0xF (R204). -/
  | cmdReserved (code : BitVec 4)
  | rdIrqEn
  | wrIrqEn (data : Word)
  | rdFrameCfg
  | wrFrameCfg (data : Word)
  | rdPattern0
  | wrPattern0 (data : Word)
  | rdPattern1
  | wrPattern1 (data : Word)
  | rdTotalLen
  | wrTotalLen (data : Word)
  | rdMaxLen
  | wrMaxLen (data : Word)
  | rdLenCfg
  | wrLenCfg (data : Word)
  | rdFrameLen
  | wrFrameLen (data : Word)
  | rdCaps
  | wrCaps (data : Word)
  /-- A read of window word `k`, at offset 0x400 + 4k (R195). -/
  | rdFrameWin (k : BitVec 8)
  | wrFrameWin (k : BitVec 8) (data : Word)
  /-- A read of an aligned offset outside the register map (R193). -/
  | rdUnmapped (addr : Offset)
  | wrUnmapped (addr : Offset) (data : Word)
  | rxByte (b : Byte)
  | rxTimeout
  | rxFault
  | engineStep
  | refusedPort
  | refusedStreamKind
  | refusedHostRsv
  | refusedMisalignedA0
  | refusedMisalignedA1
  deriving DecidableEq, Repr

end Sys2Proof
end

