-- ==== Sys2Proof/WellFormed.lean ====
section
/-! DEFINITION. Which operand values an operation's row admits (30_encoding.md R84, R87). Every other
constructor's operands are free at their width. -/
namespace Sys2Proof

/-- The offset belongs to a register of the map of 10_state.md section 3: 0x000 to 0x02C, or the FRAME
window 0x400 to 0x7FC. -/
def Offset.mapped (a : Offset) : Bool :=
  decide (a.toNat < 0x030) || (decide (0x400 ≤ a.toNat) && decide (a.toNat < 0x800))

/-- `ADDR[1:0]` = 00 (R61, R81). -/
def Offset.aligned (a : Offset) : Bool :=
  decide (a.toNat % 4 = 0)

/-- The offsets of R193 and R194: aligned and outside the register map. -/
def Offset.unmapped (a : Offset) : Bool :=
  a.aligned && !a.mapped

/-- The reserved command codes of R87: 0x0 and 0x3 to 0xE. -/
def reservedCode (c : BitVec 4) : Bool :=
  decide (c ≠ 0x1#4) && decide (c ≠ 0x2#4) && decide (c ≠ 0xF#4)

/-- The operation is one some descriptor decodes to. -/
def Instr.wellFormed : Instr → Bool
  | .cmdReserved code => reservedCode code
  | .rdUnmapped addr => addr.unmapped
  | .wrUnmapped addr _ => addr.unmapped
  | .rdCtrl | .wrCtrl _ | .rdStatus | .wrStatus _ | .rdCmd | .cmdAccept | .cmdReject | .cmdSoftReset => true
  | .rdIrqEn | .wrIrqEn _ | .rdFrameCfg | .wrFrameCfg _ | .rdPattern0 | .wrPattern0 _ => true
  | .rdPattern1 | .wrPattern1 _ | .rdTotalLen | .wrTotalLen _ | .rdMaxLen | .wrMaxLen _ => true
  | .rdLenCfg | .wrLenCfg _ | .rdFrameLen | .wrFrameLen _ | .rdCaps | .wrCaps _ => true
  | .rdFrameWin _ | .wrFrameWin _ _ | .rxByte _ | .rxTimeout | .rxFault | .engineStep => true
  | .refusedPort | .refusedStreamKind | .refusedHostRsv | .refusedMisalignedA0 | .refusedMisalignedA1 => true

end Sys2Proof
end

