-- ==== Sys2Proof/Decode.lean ====
section
/-! DEFINITION. Decoding and encoding of the 48-bit operation descriptors (30_encoding.md R80 to R90).
Decoding is total over all 2^48 descriptors; the malformed ones decode to the five REFUSED rows, by name
(R84 to R86). -/
namespace Sys2Proof

/-! ## Fields (R80 to R83) -/

/-- `PORT`, bits 47:46. -/
def portOf (d : Descriptor) : BitVec 2 := d.extractLsb' 46 2

/-- `W`, bit 45 of format HOST: 1 is a write. -/
def writeOf (d : Descriptor) : Bool := d.getLsbD 45

/-- The reserved bit 44 of format HOST. -/
def hostRsvOf (d : Descriptor) : Bool := d.getLsbD 44

/-- `KIND`, bits 45:44 of format STREAM. -/
def kindOf (d : Descriptor) : BitVec 2 := d.extractLsb' 44 2

/-- `ADDR`, bits 43:32 of format HOST. -/
def addrOf (d : Descriptor) : Offset := d.extractLsb' 32 12

/-- `DATA`, bits 31:0 of format HOST. -/
def dataOf (d : Descriptor) : Word := d.extractLsb' 0 32

/-- `BYTE`, bits 7:0 of format STREAM. -/
def byteOf (d : Descriptor) : Byte := d.extractLsb' 0 8

/-- `CODE` = `DATA[3:0]` of a `CMD` write (R87, R200). -/
def codeOf (data : Word) : BitVec 4 := data.extractLsb' 0 4

/-- `ADDR[11:10]` = 01 is the FRAME window, 0x400 to 0x7FC (R47, R84). -/
def inWindow (addr : Offset) : Bool := decide (addr.extractLsb' 10 2 = 1#2)

/-- The window word `k` at offset 0x400 + 4k: `ADDR[9:2]` (R47). -/
def windowIndexOf (addr : Offset) : BitVec 8 := addr.extractLsb' 2 8

/-! ## Decoding (R84, R85) -/

/-- A read (`W` = 0) of an aligned offset: the R84 map's rows with W = 0. -/
def decodeRead (addr : Offset) : Instr :=
  if addr = 0x000#12 then .rdCtrl
  else if addr = 0x004#12 then .rdStatus
  else if addr = 0x008#12 then .rdCmd
  else if addr = 0x00C#12 then .rdIrqEn
  else if addr = 0x010#12 then .rdFrameCfg
  else if addr = 0x014#12 then .rdPattern0
  else if addr = 0x018#12 then .rdPattern1
  else if addr = 0x01C#12 then .rdTotalLen
  else if addr = 0x020#12 then .rdMaxLen
  else if addr = 0x024#12 then .rdLenCfg
  else if addr = 0x028#12 then .rdFrameLen
  else if addr = 0x02C#12 then .rdCaps
  else if inWindow addr then .rdFrameWin (windowIndexOf addr)
  else .rdUnmapped addr

/-- A write to `CMD`, by its code (R84, R87, R200). -/
def decodeCommand (code : BitVec 4) : Instr :=
  if code = 0x1#4 then .cmdAccept
  else if code = 0x2#4 then .cmdReject
  else if code = 0xF#4 then .cmdSoftReset
  else .cmdReserved code

/-- A write (`W` = 1) to an aligned offset: the R84 map's rows with W = 1. -/
def decodeWrite (addr : Offset) (data : Word) : Instr :=
  if addr = 0x000#12 then .wrCtrl data
  else if addr = 0x004#12 then .wrStatus data
  else if addr = 0x008#12 then decodeCommand (codeOf data)
  else if addr = 0x00C#12 then .wrIrqEn data
  else if addr = 0x010#12 then .wrFrameCfg data
  else if addr = 0x014#12 then .wrPattern0 data
  else if addr = 0x018#12 then .wrPattern1 data
  else if addr = 0x01C#12 then .wrTotalLen data
  else if addr = 0x020#12 then .wrMaxLen data
  else if addr = 0x024#12 then .wrLenCfg data
  else if addr = 0x028#12 then .wrFrameLen data
  else if addr = 0x02C#12 then .wrCaps data
  else if inWindow addr then .wrFrameWin (windowIndexOf addr) data
  else .wrUnmapped addr data

/-- Format HOST (R81): the refusals of R84 first, then the map. -/
def decodeHost (d : Descriptor) : Instr :=
  if hostRsvOf d then .refusedHostRsv
  else if (addrOf d).getLsbD 0 then .refusedMisalignedA0
  else if (addrOf d).extractLsb' 0 2 = 2#2 then .refusedMisalignedA1
  else if writeOf d then decodeWrite (addrOf d) (dataOf d)
  else decodeRead (addrOf d)

/-- Format STREAM (R82). -/
def decodeStream (d : Descriptor) : Instr :=
  if kindOf d = 0#2 then .rxByte (byteOf d)
  else if kindOf d = 1#2 then .rxTimeout
  else if kindOf d = 2#2 then .rxFault
  else .refusedStreamKind

/-- The operation a descriptor stands for (R80, R85). -/
def decode (d : Descriptor) : Instr :=
  if portOf d = 0#2 then decodeHost d
  else if portOf d = 1#2 then decodeStream d
  else if portOf d = 3#2 then .engineStep
  else .refusedPort

/-! ## Encoding (R81 to R84), ignored bits written as 0 -/

/-- A HOST descriptor: PORT 00, `W`, bit 44 = 0, `ADDR`, `DATA` (R81). -/
def hostDescriptor (w : Bool) (addr : Offset) (data : Word) : Descriptor :=
  0#2 ++ BitVec.ofBool w ++ 0#1 ++ addr ++ data

/-- A STREAM descriptor: PORT 01, `KIND`, bits 43:8 zero, `BYTE` (R82). -/
def streamDescriptor (kind : BitVec 2) (b : Byte) : Descriptor :=
  1#2 ++ kind ++ 0#36 ++ b

/-- The ENGINE descriptor: PORT 11, bits 45:0 zero (R83). -/
def engineDescriptor : Descriptor := 3#2 ++ 0#46

/-- The offset of window word `k`: 0x400 + 4k (R47). -/
def windowOffset (k : BitVec 8) : Offset := 1#2 ++ k ++ 0#2

/-- The descriptor of an operation: its row's fixed bits and its operands. -/
def encode : Instr → Descriptor
  | .rdCtrl => hostDescriptor false 0x000#12 0#32
  | .wrCtrl data => hostDescriptor true 0x000#12 data
  | .rdStatus => hostDescriptor false 0x004#12 0#32
  | .wrStatus data => hostDescriptor true 0x004#12 data
  | .rdCmd => hostDescriptor false 0x008#12 0#32
  | .cmdAccept => hostDescriptor true 0x008#12 0x1#32
  | .cmdReject => hostDescriptor true 0x008#12 0x2#32
  | .cmdSoftReset => hostDescriptor true 0x008#12 0xF#32
  | .cmdReserved code => hostDescriptor true 0x008#12 (0#28 ++ code)
  | .rdIrqEn => hostDescriptor false 0x00C#12 0#32
  | .wrIrqEn data => hostDescriptor true 0x00C#12 data
  | .rdFrameCfg => hostDescriptor false 0x010#12 0#32
  | .wrFrameCfg data => hostDescriptor true 0x010#12 data
  | .rdPattern0 => hostDescriptor false 0x014#12 0#32
  | .wrPattern0 data => hostDescriptor true 0x014#12 data
  | .rdPattern1 => hostDescriptor false 0x018#12 0#32
  | .wrPattern1 data => hostDescriptor true 0x018#12 data
  | .rdTotalLen => hostDescriptor false 0x01C#12 0#32
  | .wrTotalLen data => hostDescriptor true 0x01C#12 data
  | .rdMaxLen => hostDescriptor false 0x020#12 0#32
  | .wrMaxLen data => hostDescriptor true 0x020#12 data
  | .rdLenCfg => hostDescriptor false 0x024#12 0#32
  | .wrLenCfg data => hostDescriptor true 0x024#12 data
  | .rdFrameLen => hostDescriptor false 0x028#12 0#32
  | .wrFrameLen data => hostDescriptor true 0x028#12 data
  | .rdCaps => hostDescriptor false 0x02C#12 0#32
  | .wrCaps data => hostDescriptor true 0x02C#12 data
  | .rdFrameWin k => hostDescriptor false (windowOffset k) 0#32
  | .wrFrameWin k data => hostDescriptor true (windowOffset k) data
  | .rdUnmapped addr => hostDescriptor false addr 0#32
  | .wrUnmapped addr data => hostDescriptor true addr data
  | .rxByte b => streamDescriptor 0#2 b
  | .rxTimeout => streamDescriptor 1#2 0#8
  | .rxFault => streamDescriptor 2#2 0#8
  | .engineStep => engineDescriptor
  | .refusedPort => 2#2 ++ 0#46
  | .refusedStreamKind => streamDescriptor 3#2 0#8
  | .refusedHostRsv => 1#4 ++ 0#44
  | .refusedMisalignedA0 => hostDescriptor false 0x001#12 0#32
  | .refusedMisalignedA1 => hostDescriptor false 0x002#12 0#32

/-! ## The opcode table (R85): the machine-readable rows, as data -/

/-- The mnemonic of an operation's row, as opcode_table.json spells it. -/
def Instr.mnemonic : Instr → String
  | .rdCtrl => "RD_CTRL"
  | .wrCtrl _ => "WR_CTRL"
  | .rdStatus => "RD_STATUS"
  | .wrStatus _ => "WR_STATUS"
  | .rdCmd => "RD_CMD"
  | .cmdAccept => "CMD_ACCEPT"
  | .cmdReject => "CMD_REJECT"
  | .cmdSoftReset => "CMD_SOFT_RESET"
  | .cmdReserved _ => "CMD_RESERVED"
  | .rdIrqEn => "RD_IRQ_EN"
  | .wrIrqEn _ => "WR_IRQ_EN"
  | .rdFrameCfg => "RD_FRAME_CFG"
  | .wrFrameCfg _ => "WR_FRAME_CFG"
  | .rdPattern0 => "RD_PATTERN0"
  | .wrPattern0 _ => "WR_PATTERN0"
  | .rdPattern1 => "RD_PATTERN1"
  | .wrPattern1 _ => "WR_PATTERN1"
  | .rdTotalLen => "RD_TOTAL_LEN"
  | .wrTotalLen _ => "WR_TOTAL_LEN"
  | .rdMaxLen => "RD_MAX_LEN"
  | .wrMaxLen _ => "WR_MAX_LEN"
  | .rdLenCfg => "RD_LEN_CFG"
  | .wrLenCfg _ => "WR_LEN_CFG"
  | .rdFrameLen => "RD_FRAME_LEN"
  | .wrFrameLen _ => "WR_FRAME_LEN"
  | .rdCaps => "RD_CAPS"
  | .wrCaps _ => "WR_CAPS"
  | .rdFrameWin _ => "RD_FRAME_WIN"
  | .wrFrameWin _ _ => "WR_FRAME_WIN"
  | .rdUnmapped _ => "RD_UNMAPPED"
  | .wrUnmapped _ _ => "WR_UNMAPPED"
  | .rxByte _ => "RX_BYTE"
  | .rxTimeout => "RX_TIMEOUT"
  | .rxFault => "RX_FAULT"
  | .engineStep => "ENGINE_STEP"
  | .refusedPort => "REFUSED_PORT"
  | .refusedStreamKind => "REFUSED_STREAM_KIND"
  | .refusedHostRsv => "REFUSED_HOST_RSV"
  | .refusedMisalignedA0 => "REFUSED_MISALIGNED_A0"
  | .refusedMisalignedA1 => "REFUSED_MISALIGNED_A1"

/-- One row of opcode_table.json. -/
structure OpcodeRow where
  mnemonic : String
  pattern : Descriptor
  mask : Descriptor
  priority : Nat
  deriving DecidableEq, Repr

/-- A descriptor `d` matches a row when `d AND mask = match` (R85). -/
def OpcodeRow.accepts (r : OpcodeRow) (d : Descriptor) : Bool :=
  decide (d &&& r.mask = r.pattern)

/-- The rows of format HOST that name one offset, priority 1, and `CMD_RESERVED`, priority 2. -/
def hostRows : List OpcodeRow :=
  [⟨"RD_CTRL", 0x000000000000#48, 0xFFFF00000000#48, 1⟩,
   ⟨"WR_CTRL", 0x200000000000#48, 0xFFFF00000000#48, 1⟩,
   ⟨"RD_STATUS", 0x000400000000#48, 0xFFFF00000000#48, 1⟩,
   ⟨"WR_STATUS", 0x200400000000#48, 0xFFFF00000000#48, 1⟩,
   ⟨"RD_CMD", 0x000800000000#48, 0xFFFF00000000#48, 1⟩,
   ⟨"CMD_ACCEPT", 0x200800000001#48, 0xFFFF0000000F#48, 1⟩,
   ⟨"CMD_REJECT", 0x200800000002#48, 0xFFFF0000000F#48, 1⟩,
   ⟨"CMD_SOFT_RESET", 0x20080000000F#48, 0xFFFF0000000F#48, 1⟩,
   ⟨"CMD_RESERVED", 0x200800000000#48, 0xFFFF00000000#48, 2⟩,
   ⟨"RD_IRQ_EN", 0x000C00000000#48, 0xFFFF00000000#48, 1⟩,
   ⟨"WR_IRQ_EN", 0x200C00000000#48, 0xFFFF00000000#48, 1⟩,
   ⟨"RD_FRAME_CFG", 0x001000000000#48, 0xFFFF00000000#48, 1⟩,
   ⟨"WR_FRAME_CFG", 0x201000000000#48, 0xFFFF00000000#48, 1⟩,
   ⟨"RD_PATTERN0", 0x001400000000#48, 0xFFFF00000000#48, 1⟩,
   ⟨"WR_PATTERN0", 0x201400000000#48, 0xFFFF00000000#48, 1⟩]

/-- More rows of format HOST that name one offset. -/
def hostRowsMore : List OpcodeRow :=
  [⟨"RD_PATTERN1", 0x001800000000#48, 0xFFFF00000000#48, 1⟩,
   ⟨"WR_PATTERN1", 0x201800000000#48, 0xFFFF00000000#48, 1⟩,
   ⟨"RD_TOTAL_LEN", 0x001C00000000#48, 0xFFFF00000000#48, 1⟩,
   ⟨"WR_TOTAL_LEN", 0x201C00000000#48, 0xFFFF00000000#48, 1⟩,
   ⟨"RD_MAX_LEN", 0x002000000000#48, 0xFFFF00000000#48, 1⟩,
   ⟨"WR_MAX_LEN", 0x202000000000#48, 0xFFFF00000000#48, 1⟩,
   ⟨"RD_LEN_CFG", 0x002400000000#48, 0xFFFF00000000#48, 1⟩,
   ⟨"WR_LEN_CFG", 0x202400000000#48, 0xFFFF00000000#48, 1⟩,
   ⟨"RD_FRAME_LEN", 0x002800000000#48, 0xFFFF00000000#48, 1⟩,
   ⟨"WR_FRAME_LEN", 0x202800000000#48, 0xFFFF00000000#48, 1⟩,
   ⟨"RD_CAPS", 0x002C00000000#48, 0xFFFF00000000#48, 1⟩,
   ⟨"WR_CAPS", 0x202C00000000#48, 0xFFFF00000000#48, 1⟩]

/-- The window rows, priority 1, and the catch-alls, priority 3. -/
def hostRangeRows : List OpcodeRow :=
  [⟨"RD_FRAME_WIN", 0x040000000000#48, 0xFC0300000000#48, 1⟩,
   ⟨"WR_FRAME_WIN", 0x240000000000#48, 0xFC0300000000#48, 1⟩,
   ⟨"RD_UNMAPPED", 0x000000000000#48, 0xE00000000000#48, 3⟩,
   ⟨"WR_UNMAPPED", 0x200000000000#48, 0xE00000000000#48, 3⟩]

/-- The rows of formats STREAM and ENGINE. -/
def streamRows : List OpcodeRow :=
  [⟨"RX_BYTE", 0x400000000000#48, 0xF00000000000#48, 1⟩,
   ⟨"RX_TIMEOUT", 0x500000000000#48, 0xF00000000000#48, 1⟩,
   ⟨"RX_FAULT", 0x600000000000#48, 0xF00000000000#48, 1⟩,
   ⟨"ENGINE_STEP", 0xC00000000000#48, 0xC00000000000#48, 1⟩]

/-- The refusals, priority 0 (R84, 90_conflicts.md C12). -/
def refusedRows : List OpcodeRow :=
  [⟨"REFUSED_PORT", 0x800000000000#48, 0xC00000000000#48, 0⟩,
   ⟨"REFUSED_STREAM_KIND", 0x700000000000#48, 0xF00000000000#48, 0⟩,
   ⟨"REFUSED_HOST_RSV", 0x100000000000#48, 0xD00000000000#48, 0⟩,
   ⟨"REFUSED_MISALIGNED_A0", 0x000100000000#48, 0xD00100000000#48, 0⟩,
   ⟨"REFUSED_MISALIGNED_A1", 0x000200000000#48, 0xD00300000000#48, 0⟩]

/-- opcode_table.json: 40 rows. -/
def opcodeTable : List OpcodeRow :=
  hostRows ++ hostRowsMore ++ hostRangeRows ++ streamRows ++ refusedRows

/-! ## The host's entry -/

/-- What the decoder reads from an instruction of `nbits` bits whose value is `w`: a descriptor is one
48-bit word (R90), and the bits above `nbits` are 0. Wider words are no descriptor (log 20). -/
def decodeTableWord (nbits w : Nat) : Option Instr :=
  if nbits ≤ 48 then some (decode (BitVec.ofNat 48 (w % 2 ^ nbits))) else none

end Sys2Proof
end

