-- ==== Sys2Proof/Config.lean ====
section
/-! DEFINITION. What an FSYNC implementation or its platform fixes (00_scope.md R7). -/
namespace Sys2Proof

/-- The implementation parameters a claim quantifies over (R7; I1). The machine's state carries them
and no step changes them (log 7). -/
structure Params where
  /-- `MAX_FRAME`: the capacity of `BUF` in bytes. -/
  maxFrame : Nat
  deriving DecidableEq, Repr

/-- The values R7 allows: 8 to 1024 in steps of 4. -/
def Params.legal (p : Params) : Bool :=
  decide (8 ≤ p.maxFrame) && decide (p.maxFrame ≤ 1024) && decide (p.maxFrame % 4 = 0)

/-- The default R7 gives: `MAX_FRAME` = 256. -/
def Params.default : Params := { maxFrame := 256 }

/-- `MAX_PAT`: the maximum start-pattern length in bytes, fixed (R7). -/
def Config.maxPat : Nat := 8

/-- `BASE`: the bus address of the register block, OPEN (R7, R68, D27). No value can be proved of it
(log 8). -/
opaque Config.base : Nat

/-- `IRQ_LINE`: the platform interrupt input that `irq` drives, OPEN (R7, R226, D27). No value can be
proved of it (log 8). -/
opaque Config.irqLine : Nat

end Sys2Proof
end

