-- ==== Sys2Proof/Machine/State.lean ====
section
/-! DEFINITION. The state of FSYNC (10_state.md R22), the reasons a step can stop (00_scope.md R12), and
the state after a hardware reset (R56, 70_reset_and_hazards.md R250). -/
namespace Sys2Proof.Machine

/-- The framing modes of `FRAME_CFG.MODE` (R27). -/
inductive Mode
  | binFixed
  | binLenfield
  | text
  /-- `MODE` = 3: stored, but illegal at enable (R27, R54). -/
  | reserved
  deriving DecidableEq, Repr

/-- The causes `STATUS.LAST_CAUSE` names, codes 0 to 7; values 8 to 15 never occur (R41, R220;
log 15). -/
inductive Cause
  | none
  | checksum
  | format
  | length
  | overflow
  | reject
  | timeout
  | ioFault
  deriving DecidableEq, Repr

/-- The values of `STATUS.STATE`, codes 0 to 4 (R40). -/
inductive EngineState
  | idle
  | hunt
  | collect
  | ready
  | fault
  deriving DecidableEq, Repr

/-- The checksum strategies (R3, R157). -/
inductive Algorithm
  | add16
  | xor8
  deriving DecidableEq, Repr

/-- The answer of `Validate` (R151, R155, R157). -/
inductive Verdict
  | valid
  | invalid (cause : Cause)
  deriving DecidableEq, Repr

/-- The fields of `FRAME_CFG`; each stores any value written (R27). -/
structure FrameCfg where
  mode : BitVec 2
  patLen : BitVec 4
  deriving DecidableEq, Repr

/-- The fields of `LEN_CFG` (R31). -/
structure LenCfg where
  lenOff : BitVec 8
  lenW : BitVec 1
  lenBias : BitVec 8
  deriving DecidableEq, Repr

/-- One entry of a trace: what happens next, whoever does it (R6, R80, R250). -/
inductive Event
  /-- One step of the Host, the Source or the Engine (R80). -/
  | descriptor (d : Descriptor)
  /-- `DRAIN`: `STEP` repeated while `ENGINE_STEP` is enabled (R92; log 17). -/
  | drain
  /-- The platform's reset input (R250; log 11). -/
  | hardwareReset
  deriving DecidableEq, Repr

/-- Why the machine has no next state although the descriptor has a meaning. -/
inductive Fault
  /-- `RX_BYTE` while `rx_ready` = 0: not enabled, the Source keeps its byte (R12, R100, I8). Raised by
  RX_BYTE. Safe: the block has no such step (log 4). -/
  | rxByteNotEnabled
  /-- `ENGINE_STEP` while it is not enabled (R12, R120). Raised by ENGINE_STEP. Safe: the block has no
  such step (log 4). -/
  | engineStepNotEnabled
  /-- `ENGINE_STEP` while `FRAME_CFG` holds a value R27 does not call legal: "No engine step ever runs
  with them" (I18). Raised by ENGINE_STEP, in unreachable states only. Safe (log 10). -/
  | frameCfgReserved
  deriving DecidableEq, Repr

/-- Why a descriptor has no meaning (R12, R84, R86). All are safe: a claim about a trace that holds one
cannot be proved (log 13). -/
inductive Refusal
  /-- An operation `exec` has no meaning for. Raised by no arm of this model. -/
  | notModelled (mnemonic : String)
  /-- PORT = 10. Raised by REFUSED_PORT. -/
  | reservedPort
  /-- PORT = 01 with KIND = 11. Raised by REFUSED_STREAM_KIND. -/
  | reservedStreamKind
  /-- PORT = 00 with bit 44 = 1. Raised by REFUSED_HOST_RSV. -/
  | reservedHostBit
  /-- A host access with `ADDR[0]` = 1. Raised by REFUSED_MISALIGNED_A0. -/
  | misalignedAddr0
  /-- A host access with `ADDR[1:0]` = 10. Raised by REFUSED_MISALIGNED_A1. -/
  | misalignedAddr1
  deriving DecidableEq, Repr

/-- Everything R22 lists (fields only, log 14), the parameter `MAX_FRAME` (R7), and the model's own `trace`, `reads` and
`faultSeen`. -/
structure State where
  /-- The implementation's parameters; no step changes them (log 7). -/
  params : Params
  /-- `FRAME_CFG` (R27). -/
  frameCfg : FrameCfg
  /-- `PATTERN0` (R28). -/
  pattern0 : Word
  /-- `PATTERN1` (R28). -/
  pattern1 : Word
  /-- `TOTAL_LEN` (R29). -/
  totalLen : BitVec 16
  /-- `MAX_LEN` (R30). -/
  maxLen : BitVec 16
  /-- `LEN_CFG` (R31). -/
  lenCfg : LenCfg
  /-- `IRQ_EN` (R32). -/
  irqEn : BitVec 5
  /-- `CTRL.EN` (R33). -/
  en : Bool
  /-- `BUF`, in arrival order (R23). -/
  buf : List Byte
  /-- `SCAN` (R24). -/
  scan : Nat
  /-- `READY` (R25). -/
  ready : Bool
  /-- `FAULT` (R26). -/
  fault : Bool
  /-- `STATUS.INVALID` (R37). -/
  invalid : Bool
  /-- `STATUS.RESYNC` (R38). -/
  resync : Bool
  /-- `STATUS.CFG_ERR` (R39). -/
  cfgErr : Bool
  /-- `STATUS.LAST_CAUSE` (R41). -/
  lastCause : Cause
  /-- MODEL: the history flag of I10, set when an I/O fault is taken, which no step clears (log 6). -/
  faultSeen : Bool
  /-- MODEL: the values host reads have returned, newest first (R81; log 5). -/
  reads : List Word
  /-- MODEL: the events still to be performed, first first (R80, R93; log 1). -/
  trace : List Event
  deriving DecidableEq, Repr

/-- The state right after a hardware reset of a block with parameters `p`: every register, field and
runtime value 0 or empty (R56, R250). The model's own fields are empty (log 2, 5, 6). -/
def State.resetWith (p : Params) : State :=
  { params := p
    frameCfg := { mode := 0#2, patLen := 0#4 }
    pattern0 := 0#32
    pattern1 := 0#32
    totalLen := 0#16
    maxLen := 0#16
    lenCfg := { lenOff := 0#8, lenW := 0#1, lenBias := 0#8 }
    irqEn := 0#5
    en := false
    buf := []
    scan := 0
    ready := false
    fault := false
    invalid := false
    resync := false
    cfgErr := false
    lastCause := .none
    faultSeen := false
    reads := []
    trace := [] }

/-- The machine right after reset, with the default `MAX_FRAME` of R7 (log 7). -/
def State.reset : State := State.resetWith Params.default

end Sys2Proof.Machine
end

