-- ==== Sys2Proof/Machine/Operands.lean ====
section
/-! DEFINITION. The operand forms: byte sequences (00_scope.md R10), the fields of write DATA
(30_encoding.md R88, 10_state.md section 3), and the quantities the configuration registers give the
engine (10_state.md R27 to R31, R54, R55; 41_frame_engine.md's `P`, `w`, `F`). -/
namespace Sys2Proof.Machine

/-! ## Byte sequences (R10) -/

/-- `s[a..b)`. -/
def slice (s : List Byte) (a b : Nat) : List Byte := (s.take b).drop a

/-- `be(s)`: the big-endian unsigned value, on unbounded naturals (R10, R65). -/
def be (s : List Byte) : Nat := s.foldl (fun acc b => acc * 256 + b.toNat) 0

/-! ## Fields of write DATA (R88): taken straight from the bit positions -/

/-- `FRAME_CFG`: MODE in 1:0, PAT_LEN in 7:4 (R27, R179). -/
def FrameCfg.ofData (data : Word) : FrameCfg :=
  { mode := data.extractLsb' 0 2, patLen := data.extractLsb' 4 4 }

/-- `LEN_CFG`: LEN_OFF in 7:0, LEN_W in 8, LEN_BIAS in 23:16 (R31, R189). -/
def LenCfg.ofData (data : Word) : LenCfg :=
  { lenOff := data.extractLsb' 0 8, lenW := data.extractLsb' 8 1, lenBias := data.extractLsb' 16 8 }

/-- `TOTAL_LEN` and `MAX_LEN`: bits 15:0 (R29, R30, R185, R187). -/
def lengthOfData (data : Word) : BitVec 16 := data.extractLsb' 0 16

/-- `IRQ_EN`: bits 4:0 (R32, R177). -/
def irqEnOfData (data : Word) : BitVec 5 := data.extractLsb' 0 5

/-! ## What the configuration gives the engine -/

/-- `FRAME_CFG.MODE` as a mode (R27). -/
def Mode.ofBits (m : BitVec 2) : Mode :=
  if m = 0#2 then .binFixed
  else if m = 1#2 then .binLenfield
  else if m = 2#2 then .text
  else .reserved

/-- The configured mode. -/
def State.mode (s : State) : Mode := Mode.ofBits s.frameCfg.mode

/-- `P` = `FRAME_CFG.PAT_LEN`. -/
def State.patLen (s : State) : Nat := s.frameCfg.patLen.toNat

/-- `PATTERN[k]` for k = 0..7 (R28); outside that range there is no pattern byte. -/
def State.patternByte (s : State) (k : Nat) : Option Byte :=
  if k < 4 then some (s.pattern0.extractLsb' (8 * k) 8)
  else if k < 8 then some (s.pattern1.extractLsb' (8 * (k - 4)) 8)
  else none

/-- `w` = 1 + `LEN_CFG.LEN_W`: the length field's width in bytes (R31). -/
def State.lenWidth (s : State) : Nat := 1 + s.lenCfg.lenW.toNat

/-- `F` = `LEN_CFG.LEN_OFF` + w: where the length field ends (41_frame_engine.md). -/
def State.lenEnd (s : State) : Nat := s.lenCfg.lenOff.toNat + s.lenWidth

/-- `T` = be(c[LEN_OFF..F)) + LEN_BIAS: the announced total length, an unbounded natural (R123). -/
def State.announcedLen (s : State) (c : List Byte) : Nat :=
  be (slice c s.lenCfg.lenOff.toNat s.lenEnd) + s.lenCfg.lenBias.toNat

/-- `Lmax`: the largest terminal length of the configuration (R55). R55 names none for the reserved
mode, which is never enabled (R54). -/
def State.lmax (s : State) : Nat :=
  match s.mode with
  | .binFixed => s.totalLen.toNat
  | .binLenfield => s.maxLen.toNat
  | .text => s.maxLen.toNat
  | .reserved => 0

/-- `FRAME_CFG` holds a mode and a pattern length that R27 lists as legal. -/
def State.frameCfgLegal (s : State) : Bool :=
  decide (1 ≤ s.patLen) && decide (s.patLen ≤ Config.maxPat) && decide (s.mode ≠ .reserved)

/-- The length registers fit the mode: the case distinction of R54. -/
def State.lengthsLegal (s : State) : Bool :=
  match s.mode with
  | .binFixed => decide (s.patLen + 2 ≤ s.totalLen.toNat) && decide (s.totalLen.toNat ≤ s.params.maxFrame)
  | .binLenfield =>
    decide (s.patLen ≤ s.lenCfg.lenOff.toNat) && decide (s.lenEnd + 2 ≤ s.maxLen.toNat) &&
      decide (s.maxLen.toNat ≤ s.params.maxFrame)
  | .text => decide (s.patLen + 5 ≤ s.maxLen.toNat) && decide (s.maxLen.toNat ≤ s.params.maxFrame)
  | .reserved => false

/-- `Legal()` (R54). -/
def State.legal (s : State) : Bool := s.frameCfgLegal && s.lengthsLegal

end Sys2Proof.Machine
end

