-- ==== Sys2Proof/Machine/Flags.lean ====
section
/-! DEFINITION. Every value that is a function of the state (10_state.md R22): the status word, the read
views of the registers, the FRAME window, `rx_ready`, `irq`, and when the engine is enabled. -/
namespace Sys2Proof.Machine

/-! ## Status (R34 to R42) -/

/-- The 4-bit code of a cause (R41, R220). -/
def Cause.code : Cause → BitVec 4
  | .none => 0#4
  | .checksum => 1#4
  | .format => 2#4
  | .length => 3#4
  | .overflow => 4#4
  | .reject => 5#4
  | .timeout => 6#4
  | .ioFault => 7#4

/-- The 3-bit code of a state (R40). -/
def EngineState.code : EngineState → BitVec 3
  | .idle => 0#3
  | .hunt => 1#3
  | .collect => 2#3
  | .ready => 3#3
  | .fault => 4#3

/-- `STATUS.STATE`: the first line of R40 that applies. -/
def State.engineState (s : State) : EngineState :=
  if s.fault then .fault
  else if !s.en then .idle
  else if s.ready then .ready
  else if s.scan < s.patLen then .hunt
  else .collect

/-- `STATUS.PENDING` = len(BUF) − SCAN (R42; log 16). -/
def State.pending (s : State) : Nat := s.buf.length - s.scan

/-- What a read of `STATUS` returns (R34, R174). -/
def State.statusWord (s : State) : Word :=
  BitVec.ofNat 16 s.pending ++ s.lastCause.code ++ 0#1 ++ s.engineState.code ++ 0#3 ++
    BitVec.ofBool s.cfgErr ++ BitVec.ofBool s.resync ++ BitVec.ofBool s.invalid ++
    BitVec.ofBool s.fault ++ BitVec.ofBool s.ready

/-! ## The other read views -/

/-- `CTRL` reads zext_32(EN) (R33, R172). -/
def State.ctrlWord (s : State) : Word := 0#31 ++ BitVec.ofBool s.en

/-- `IRQ_EN` reads zext_32(IRQ_EN[4:0]) (R176). -/
def State.irqEnWord (s : State) : Word := 0#27 ++ s.irqEn

/-- `FRAME_CFG` reads zext_32 of PAT_LEN, 00, MODE (R178). -/
def State.frameCfgWord (s : State) : Word := 0#24 ++ s.frameCfg.patLen ++ 0#2 ++ s.frameCfg.mode

/-- `TOTAL_LEN` reads zext_32(TOTAL_LEN[15:0]) (R184). -/
def State.totalLenWord (s : State) : Word := 0#16 ++ s.totalLen

/-- `MAX_LEN` reads zext_32(MAX_LEN[15:0]) (R186). -/
def State.maxLenWord (s : State) : Word := 0#16 ++ s.maxLen

/-- `LEN_CFG` reads LEN_BIAS in 23:16, LEN_W in 8, LEN_OFF in 7:0 (R188). -/
def State.lenCfgWord (s : State) : Word :=
  0#8 ++ s.lenCfg.lenBias ++ 0#7 ++ s.lenCfg.lenW ++ s.lenCfg.lenOff

/-- The length of the ready frame: SCAN when READY = 1, 0 otherwise (R43). -/
def State.frameLen (s : State) : Nat := if s.ready then s.scan else 0

/-- `FRAME_LEN` reads the ready frame's length; bits 31:16 are 0 (R43, R190). -/
def State.frameLenWord (s : State) : Word := 0#16 ++ BitVec.ofNat 16 s.frameLen

/-- `CAPS`: MAX_FRAME in 15:0, MAX_PAT = 8 in 19:16 (R45, R191). -/
def State.capsWord (s : State) : Word :=
  0#12 ++ BitVec.ofNat 4 Config.maxPat ++ BitVec.ofNat 16 s.params.maxFrame

/-- byte(i) of the FRAME window (R47). Beyond len(BUF), in unreachable states, it is 0x00 (DESIGN CHOICE, log 24). -/
def State.winByte (s : State) (i : Nat) : Byte :=
  if s.ready && decide (i < s.scan) then s.buf.getD i 0x00#8 else 0x00#8

/-- Window word `k`: byte 4k + j in bits 8j+7:8j (R47, R66, R195). -/
def State.winWord (s : State) (k : BitVec 8) : Word :=
  s.winByte (4 * k.toNat + 3) ++ s.winByte (4 * k.toNat + 2) ++
    s.winByte (4 * k.toNat + 1) ++ s.winByte (4 * k.toNat)

/-- What an aligned host read of an offset returns: the register map of 10_state.md section 3, with
RAZ elsewhere (R60, R63, R68; log 22). -/
def State.busRead (s : State) (addr : Offset) : Word :=
  if addr = 0x000#12 then s.ctrlWord
  else if addr = 0x004#12 then s.statusWord
  else if addr = 0x00C#12 then s.irqEnWord
  else if addr = 0x010#12 then s.frameCfgWord
  else if addr = 0x014#12 then s.pattern0
  else if addr = 0x018#12 then s.pattern1
  else if addr = 0x01C#12 then s.totalLenWord
  else if addr = 0x020#12 then s.maxLenWord
  else if addr = 0x024#12 then s.lenCfgWord
  else if addr = 0x028#12 then s.frameLenWord
  else if addr = 0x02C#12 then s.capsWord
  else if inWindow addr then s.winWord (windowIndexOf addr)
  else 0#32

/-! ## Outputs and enabling -/

/-- `rx_ready` (R48). -/
def State.rxReady (s : State) : Bool :=
  s.en && !s.fault && !s.ready && decide (s.scan = s.buf.length)

/-- `irq`: some STATUS bit 0 to 4 is 1 and enabled (R49). -/
def State.irq (s : State) : Bool :=
  (List.range 5).any fun b => s.statusWord.getLsbD b && s.irqEn.getLsbD b

/-- `ENGINE_STEP` is enabled (R120). -/
def State.engineEnabled (s : State) : Bool :=
  s.en && !s.fault && !s.ready && decide (s.scan < s.buf.length)

end Sys2Proof.Machine
end

