-- ==== Sys2Proof/Machine/Ops.lean ====
section
/-! DEFINITION. The named operations over the state that the meanings share: handing back a read value,
the configuration lock (R170), the moves of the scan (R128), taking a cause (R230) and its return
analogues (R231), and the two resets (R250, R251). -/
namespace Sys2Proof.Machine

/-! ## Host accesses -/

/-- A host read hands back `v` and changes nothing of the block (R64). -/
def State.withRead (s : State) (v : Word) : State := { s with reads := v :: s.reads }

/-- The configuration lock: a configuration write takes effect only while `EN` = 0 (R170). `stored` is the
state in which the write has taken effect. -/
def State.unlessEnabled (s stored : State) : State := if s.en then s else stored

/-! ## Moves of the scan (R128) -/

/-- Slide: drop the first byte of `BUF` and rescan from index 0 (R120). -/
def State.slide (s : State) : State := { s with buf := s.buf.drop 1, scan := 0 }

/-- Drop the candidate and every pending byte (R103, R104). -/
def State.dropAll (s : State) : State := { s with buf := [], scan := 0 }

/-- Keep only the validated frame: the bytes before `SCAN` (R104). -/
def State.keepFrame (s : State) : State := { s with buf := s.buf.take s.scan }

/-- The frame is consumed; pending bytes behind it stay (R201). -/
def State.releaseFrame (s : State) : State :=
  { s with buf := s.buf.drop s.scan, scan := 0, ready := false }

/-- Abort: the candidate, the pending bytes and a ready frame are discarded (R171, R202). -/
def State.abandon (s : State) : State := { s with buf := [], scan := 0, ready := false }

/-! ## Taking a cause (R220, R230) -/

/-- Parts 1 and 2 of R230: `LAST_CAUSE` takes the code, and the sticky bit of R220, or `FAULT`, is set.
Cause NONE is recorded only by a reset and sets no bit. -/
def State.recordCause (s : State) (c : Cause) : State :=
  match c with
  | .none => { s with lastCause := .none }
  | .checksum => { s with lastCause := .checksum, invalid := true }
  | .format => { s with lastCause := .format, invalid := true }
  | .length => { s with lastCause := .length, invalid := true }
  | .overflow => { s with lastCause := .overflow, invalid := true }
  | .reject => { s with lastCause := .reject, invalid := true }
  | .timeout => { s with lastCause := .timeout, resync := true }
  | .ioFault => { s with lastCause := .ioFault, fault := true, faultSeen := true }

/-- Part 3 of R230: the scan moves to the resume point R128 gives the cause. -/
def State.resumeAfter (s : State) (c : Cause) : State :=
  match c with
  | .none => s
  | .checksum => s.slide
  | .format => s.slide
  | .length => s.slide
  | .overflow => s.slide
  | .reject => { s.slide with ready := false }
  | .timeout => s.dropAll
  | .ioFault => if s.ready then s.keepFrame else s.dropAll

/-- The analogue of taking an exception, in one atomic step (R230): record the cause, set its bit, move
the scan. No mode changes, nothing else is saved and control goes nowhere. -/
def State.takeCause (s : State) (c : Cause) : State := (s.recordCause c).resumeAfter c

/-- The analogue of a return (R231): the host clears exactly the sticky bits it writes as 1 (R173). -/
def State.acknowledge (s : State) (data : Word) : State :=
  { s with
    invalid := s.invalid && !data.getLsbD 2
    resync := s.resync && !data.getLsbD 3
    cfgErr := s.cfgErr && !data.getLsbD 4 }

/-! ## Resets -/

/-- Soft reset: every runtime value returns to its reset value; the configuration and `IRQ_EN` stay
(R203, R251). -/
def State.softReset (s : State) : State :=
  { s with
    en := false, fault := false, ready := false, buf := [], scan := 0,
    invalid := false, resync := false, cfgErr := false, lastCause := .none }

/-- Hardware reset: every piece of state takes its hardware-reset value (R56, R250). The parameters, the
host's record of reads, the history flag and the events still to come are none of the block's state and
stay (log 11). -/
def State.hardwareReset (s : State) : State :=
  { State.resetWith s.params with faultSeen := s.faultSeen, reads := s.reads, trace := s.trace }

/-! ## The trace -/

/-- Put a descriptor where the next step takes its event from. -/
def State.placeDescriptor (s : State) (d : Descriptor) : State :=
  { s with trace := .descriptor d :: s.trace }

/-- The trace after its first event. -/
def State.withTrace (s : State) (rest : List Event) : State := { s with trace := rest }

/-! ## The platform's wires (R11, R68, R226; log 8) -/

/-- The offset a bus address selects, if it lies in the register block at `BASE` (R60, R68). -/
def busOffset (address : Nat) : Option Offset :=
  if Config.base ≤ address ∧ address < Config.base + 4096 then
    some (BitVec.ofNat 12 (address - Config.base))
  else none

/-- `MemRead(address, 4)`: the HOST descriptor of a bus read (R11). -/
def memRead (address : Nat) : Option Descriptor :=
  (busOffset address).map fun off => hostDescriptor false off 0#32

/-- `MemWrite(address, 4, v)`: the HOST descriptor of a bus write (R11). -/
def memWrite (address : Nat) (v : Word) : Option Descriptor :=
  (busOffset address).map fun off => hostDescriptor true off v

/-- FSYNC's contribution to a platform interrupt input: `irq` on `IRQ_LINE`, nothing elsewhere (R226). -/
def State.drivesLine (s : State) (line : Nat) : Bool := decide (line = Config.irqLine) && s.irq

end Sys2Proof.Machine
end

