-- ==== Sys2Proof/Machine/Commands.lean ====
section
/-! DEFINITION. Commands: host writes to `CMD` (44_commands.md). -/
namespace Sys2Proof.Machine

/-- CMD_ACCEPT (R201): release the ready frame and continue after it; ignored while `READY` = 0. -/
def execCmdAccept (s : State) : Host.Outcome State Fault Refusal :=
  if s.ready then .next s.releaseFrame else .next s

/-- CMD_REJECT (R202): reject the ready frame and resume at its second byte; while faulted only drop it;
ignored while `READY` = 0. -/
def execCmdReject (s : State) : Host.Outcome State Fault Refusal :=
  if s.ready && !s.fault then .next (s.takeCause .reject)
  else if s.ready then .next s.abandon
  else .next s

/-- CMD_SOFT_RESET (R203). -/
def execCmdSoftReset (s : State) : Host.Outcome State Fault Refusal := .next s.softReset

/-- CMD_RESERVED (R204): ignored, whatever the reserved code. -/
def execCmdReserved (_code : BitVec 4) (s : State) : Host.Outcome State Fault Refusal := .next s

end Sys2Proof.Machine
end

