-- ==== Sys2Proof/Machine/Checksum.lean ====
section
/-! DEFINITION. Checksum validation: a pure function of the candidate's bytes (42_checksum.md R150 to
R157). `cand` is the rules' candidate `c` and `L` its length. -/
namespace Sys2Proof.Machine

/-! ## ADD16 -/

/-- `Sum16(c)`: the sum of every byte before the two trailing checksum bytes, mod 2^16 (R150). -/
def sum16 (cand : List Byte) : Nat :=
  ((cand.take (cand.length - 2)).map BitVec.toNat).sum % 2 ^ 16

/-- `Validate(ADD16, c)` for `L ≥ 2` (R151). -/
def validateAdd16 (cand : List Byte) : Verdict :=
  if sum16 cand = be (slice cand (cand.length - 2) cand.length) then .valid else .invalid .checksum

/-! ## XOR8 -/

/-- The value of a checksum digit, if the byte is one: '0' to '9' or 'A' to 'F' (R152;
PRESUMED ASCII, log 23). -/
def hexDigit (x : Byte) : Option Nat :=
  if 0x30 ≤ x.toNat ∧ x.toNat ≤ 0x39 then some (x.toNat - 0x30)
  else if 0x41 ≤ x.toNat ∧ x.toNat ≤ 0x46 then some (x.toNat - 0x37)
  else none

/-- The checksum digit at index `i` of the candidate, if the byte there is one (R152). -/
def digitAt (cand : List Byte) (i : Nat) : Option Nat := (cand[i]?).bind hexDigit

/-- The body `c[1..L−5)`: strictly between the start marker and the `*` (R153, R154). -/
def textBody (cand : List Byte) : List Byte := slice cand 1 (cand.length - 5)

/-- `TextShape(c)`, given that the last byte is LF (R153). -/
def textShape (cand : List Byte) : Bool :=
  decide (6 ≤ cand.length) &&
    decide (cand[cand.length - 2]? = some 0x0D#8) &&
    decide (cand[cand.length - 5]? = some 0x2A#8) &&
    !(textBody cand).contains 0x2A#8 &&
    (digitAt cand (cand.length - 4)).isSome &&
    (digitAt cand (cand.length - 3)).isSome

/-- `Xor8(c)`: the XOR of the body's bytes, 0x00 if it is empty (R154). -/
def xor8 (cand : List Byte) : Byte := (textBody cand).foldl (· ^^^ ·) 0x00#8

/-- The number the two digits after the `*` write, high nibble first (R155). -/
def writtenXor (cand : List Byte) : Option Nat :=
  match digitAt cand (cand.length - 4), digitAt cand (cand.length - 3) with
  | some hi, some lo => some (16 * hi + lo)
  | _, _ => none

/-- `Validate(XOR8, c)`: FORMAT before CHECKSUM (R155, R156). -/
def validateXor8 (cand : List Byte) : Verdict :=
  if !textShape cand then .invalid .format
  else if writtenXor cand = some (xor8 cand).toNat then .valid
  else .invalid .checksum

/-! ## Dispatch -/

/-- `Validate(alg, c)`: reads only `c` and writes nothing (R157). -/
def validate (alg : Algorithm) (cand : List Byte) : Verdict :=
  match alg with
  | .add16 => validateAdd16 cand
  | .xor8 => validateXor8 cand

end Sys2Proof.Machine
end

