-- ==== Sys2Proof/Machine/Engine.lean ====
section
/-! DEFINITION. The frame engine: ENGINE_STEP (41_frame_engine.md). `n` is the candidate's length if the
examined byte is kept, and `c` = BUF[0..n). -/
namespace Sys2Proof.Machine

/-- Keep the examined byte: `SCAN <- n`. -/
def State.keepByte (s : State) (n : Nat) : State := { s with scan := n }

/-- `Complete(c, alg)` at terminal length `n`: hand the frame over, or reject the candidate (R124, R125). -/
def State.complete (s : State) (alg : Algorithm) (n : Nat) : State :=
  match validate alg (s.buf.take n) with
  | .valid => { s with scan := n, ready := true }
  | .invalid cause => s.takeCause cause

/-- Pattern phase, `n ≤ P`: the byte is PATTERN[n−1], or the engine slides (R121). -/
def State.matchPattern (s : State) (b : Byte) (n : Nat) : State :=
  if s.patternByte (n - 1) = some b then s.keepByte n else s.slide

/-- BIN_FIXED collection (R122). -/
def State.collectFixed (s : State) (n : Nat) : State :=
  if n = s.totalLen.toNat then s.complete .add16 n else s.keepByte n

/-- BIN_LENFIELD collection: length extraction, checked as soon as the field is read (R123). -/
def State.collectLenfield (s : State) (n : Nat) : State :=
  if n < s.lenEnd then s.keepByte n
  else
    let t := s.announcedLen (s.buf.take n)
    if t < s.lenEnd + 2 ∨ s.maxLen.toNat < t then s.takeCause .length
    else if n = t then s.complete .add16 n
    else s.keepByte n

/-- TEXT collection: LF ends the line, bounded by MAX_LEN (R126). -/
def State.collectText (s : State) (b : Byte) (n : Nat) : State :=
  if b = 0x0A#8 then s.complete .xor8 n
  else if s.maxLen.toNat ≤ n then s.takeCause .overflow
  else s.keepByte n

/-- One examination of the byte `b` = BUF[SCAN] (R120). A `FRAME_CFG` that R27 does not call legal gives
the engine no step (I18; log 10). -/
def State.examine (s : State) (b : Byte) : Host.Outcome State Fault Refusal :=
  if !s.frameCfgLegal then .fault .frameCfgReserved
  else if s.scan + 1 ≤ s.patLen then .next (s.matchPattern b (s.scan + 1))
  else
    match s.mode with
    | .binFixed => .next (s.collectFixed (s.scan + 1))
    | .binLenfield => .next (s.collectLenfield (s.scan + 1))
    | .text => .next (s.collectText b (s.scan + 1))
    | .reserved => .fault .frameCfgReserved

/-- ENGINE_STEP (R120): enabled only while `EN` = 1, `FAULT` = 0, `READY` = 0 and a byte is pending. -/
def execEngineStep (s : State) : Host.Outcome State Fault Refusal :=
  if s.engineEnabled then s.examine (s.buf.getD s.scan 0x00#8) else .fault .engineStepNotEnabled

end Sys2Proof.Machine
end

