-- ==== Sys2Proof/Machine/HostRead.lean ====
section
/-! DEFINITION. Host register reads (43_host_access.md). A read hands back a value and changes nothing of
the block (20_memory.md R64). -/
namespace Sys2Proof.Machine

/-- RD_CTRL (R172). -/
def execRdCtrl (s : State) : Host.Outcome State Fault Refusal := .next (s.withRead s.ctrlWord)

/-- RD_STATUS (R174). -/
def execRdStatus (s : State) : Host.Outcome State Fault Refusal := .next (s.withRead s.statusWord)

/-- RD_CMD (R175): `CMD` has no storage and reads 0. -/
def execRdCmd (s : State) : Host.Outcome State Fault Refusal := .next (s.withRead 0#32)

/-- RD_IRQ_EN (R176). -/
def execRdIrqEn (s : State) : Host.Outcome State Fault Refusal := .next (s.withRead s.irqEnWord)

/-- RD_FRAME_CFG (R178). -/
def execRdFrameCfg (s : State) : Host.Outcome State Fault Refusal := .next (s.withRead s.frameCfgWord)

/-- RD_PATTERN0 (R180). -/
def execRdPattern0 (s : State) : Host.Outcome State Fault Refusal := .next (s.withRead s.pattern0)

/-- RD_PATTERN1 (R182). -/
def execRdPattern1 (s : State) : Host.Outcome State Fault Refusal := .next (s.withRead s.pattern1)

/-- RD_TOTAL_LEN (R184). -/
def execRdTotalLen (s : State) : Host.Outcome State Fault Refusal := .next (s.withRead s.totalLenWord)

/-- RD_MAX_LEN (R186). -/
def execRdMaxLen (s : State) : Host.Outcome State Fault Refusal := .next (s.withRead s.maxLenWord)

/-- RD_LEN_CFG (R188). -/
def execRdLenCfg (s : State) : Host.Outcome State Fault Refusal := .next (s.withRead s.lenCfgWord)

/-- RD_FRAME_LEN (R190). -/
def execRdFrameLen (s : State) : Host.Outcome State Fault Refusal := .next (s.withRead s.frameLenWord)

/-- RD_CAPS (R191). -/
def execRdCaps (s : State) : Host.Outcome State Fault Refusal := .next (s.withRead s.capsWord)

/-- RD_FRAME_WIN k (R195). -/
def execRdFrameWin (k : BitVec 8) (s : State) : Host.Outcome State Fault Refusal :=
  .next (s.withRead (s.winWord k))

/-- RD_UNMAPPED (R193): reads 0 at every unmapped offset. -/
def execRdUnmapped (_addr : Offset) (s : State) : Host.Outcome State Fault Refusal :=
  .next (s.withRead 0#32)

end Sys2Proof.Machine
end

