-- ==== Sys2Proof/Machine/HostWrite.lean ====
section
/-! DEFINITION. Host register writes other than commands (43_host_access.md). -/
namespace Sys2Proof.Machine

/-- WR_CTRL (R171): enable when the configuration is legal, abort on 1 → 0, otherwise ignored. -/
def execWrCtrl (data : Word) (s : State) : Host.Outcome State Fault Refusal :=
  if !s.en && data.getLsbD 0 then
    if s.legal then .next { s with en := true } else .next { s with cfgErr := true }
  else if s.en && !data.getLsbD 0 then .next { s.abandon with en := false }
  else .next s

/-- WR_STATUS (R173): write 1 to clear. -/
def execWrStatus (data : Word) (s : State) : Host.Outcome State Fault Refusal :=
  .next (s.acknowledge data)

/-- WR_IRQ_EN (R177): not locked by `EN`. -/
def execWrIrqEn (data : Word) (s : State) : Host.Outcome State Fault Refusal :=
  .next { s with irqEn := irqEnOfData data }

/-- WR_FRAME_CFG (R170, R179). -/
def execWrFrameCfg (data : Word) (s : State) : Host.Outcome State Fault Refusal :=
  .next (s.unlessEnabled { s with frameCfg := FrameCfg.ofData data })

/-- WR_PATTERN0 (R170, R181). -/
def execWrPattern0 (data : Word) (s : State) : Host.Outcome State Fault Refusal :=
  .next (s.unlessEnabled { s with pattern0 := data })

/-- WR_PATTERN1 (R170, R183). -/
def execWrPattern1 (data : Word) (s : State) : Host.Outcome State Fault Refusal :=
  .next (s.unlessEnabled { s with pattern1 := data })

/-- WR_TOTAL_LEN (R170, R185). -/
def execWrTotalLen (data : Word) (s : State) : Host.Outcome State Fault Refusal :=
  .next (s.unlessEnabled { s with totalLen := lengthOfData data })

/-- WR_MAX_LEN (R170, R187). -/
def execWrMaxLen (data : Word) (s : State) : Host.Outcome State Fault Refusal :=
  .next (s.unlessEnabled { s with maxLen := lengthOfData data })

/-- WR_LEN_CFG (R170, R189). -/
def execWrLenCfg (data : Word) (s : State) : Host.Outcome State Fault Refusal :=
  .next (s.unlessEnabled { s with lenCfg := LenCfg.ofData data })

/-- WR_FRAME_LEN (R192): ignored. -/
def execWrFrameLen (_data : Word) (s : State) : Host.Outcome State Fault Refusal := .next s

/-- WR_CAPS (R192): ignored. -/
def execWrCaps (_data : Word) (s : State) : Host.Outcome State Fault Refusal := .next s

/-- WR_FRAME_WIN (R192): ignored. -/
def execWrFrameWin (_k : BitVec 8) (_data : Word) (s : State) : Host.Outcome State Fault Refusal := .next s

/-- WR_UNMAPPED (R194): ignored. -/
def execWrUnmapped (_addr : Offset) (_data : Word) (s : State) : Host.Outcome State Fault Refusal := .next s

end Sys2Proof.Machine
end

