-- ==== Sys2Proof/Machine/Refused.lean ====
section
/-! DEFINITION. Refused descriptors: "A refused descriptor has no meaning and no step" and "A model must
not give it any effect" (30_encoding.md R84, R86; 00_scope.md R12). -/
namespace Sys2Proof.Machine

/-- REFUSED_PORT: PORT = 10. -/
def execRefusedPort (_s : State) : Host.Outcome State Fault Refusal := .refused .reservedPort

/-- REFUSED_STREAM_KIND: PORT = 01 with KIND = 11. -/
def execRefusedStreamKind (_s : State) : Host.Outcome State Fault Refusal := .refused .reservedStreamKind

/-- REFUSED_HOST_RSV: PORT = 00 with bit 44 = 1. -/
def execRefusedHostRsv (_s : State) : Host.Outcome State Fault Refusal := .refused .reservedHostBit

/-- REFUSED_MISALIGNED_A0: a host access with `ADDR[0]` = 1 (R62). -/
def execRefusedMisalignedA0 (_s : State) : Host.Outcome State Fault Refusal := .refused .misalignedAddr0

/-- REFUSED_MISALIGNED_A1: a host access with `ADDR[1:0]` = 10 (R62). -/
def execRefusedMisalignedA1 (_s : State) : Host.Outcome State Fault Refusal := .refused .misalignedAddr1

end Sys2Proof.Machine
end

