-- ==== Sys2Proof/Machine/Stream.lean ====
section
/-! DEFINITION. Stream input operations: RX_BYTE, RX_TIMEOUT, RX_FAULT (40_stream_input.md). -/
namespace Sys2Proof.Machine

/-- RX_BYTE b (R101; log 21): enabled only while `rx_ready` = 1; otherwise the Source waits (R100; log 4). -/
def execRxByte (b : Byte) (s : State) : Host.Outcome State Fault Refusal :=
  if s.rxReady then .next { s with buf := s.buf ++ [b] } else .fault .rxByteNotEnabled

/-- RX_TIMEOUT (R103): always enabled, ignored while `rx_ready` = 0. -/
def execRxTimeout (s : State) : Host.Outcome State Fault Refusal :=
  if s.rxReady then .next (s.takeCause .timeout) else .next s

/-- RX_FAULT (R104): always enabled, ignored unless `EN` = 1 and `FAULT` = 0. -/
def execRxFault (s : State) : Host.Outcome State Fault Refusal :=
  if s.en && !s.fault then .next (s.takeCause .ioFault) else .next s

end Sys2Proof.Machine
end

