-- ==== Sys2Proof/Machine/Dispatch.lean ====
section
/-! DEFINITION. What each operation does: one arm per row of opcode_table.json, one direct call each. -/
namespace Sys2Proof.Machine

def exec (i : Instr) (s : State) : Host.Outcome State Fault Refusal :=
  match i with
  | .rdCtrl => Sys2Proof.Machine.execRdCtrl s
  | .wrCtrl data => Sys2Proof.Machine.execWrCtrl data s
  | .rdStatus => Sys2Proof.Machine.execRdStatus s
  | .wrStatus data => Sys2Proof.Machine.execWrStatus data s
  | .rdCmd => Sys2Proof.Machine.execRdCmd s
  | .cmdAccept => Sys2Proof.Machine.execCmdAccept s
  | .cmdReject => Sys2Proof.Machine.execCmdReject s
  | .cmdSoftReset => Sys2Proof.Machine.execCmdSoftReset s
  | .cmdReserved code => Sys2Proof.Machine.execCmdReserved code s
  | .rdIrqEn => Sys2Proof.Machine.execRdIrqEn s
  | .wrIrqEn data => Sys2Proof.Machine.execWrIrqEn data s
  | .rdFrameCfg => Sys2Proof.Machine.execRdFrameCfg s
  | .wrFrameCfg data => Sys2Proof.Machine.execWrFrameCfg data s
  | .rdPattern0 => Sys2Proof.Machine.execRdPattern0 s
  | .wrPattern0 data => Sys2Proof.Machine.execWrPattern0 data s
  | .rdPattern1 => Sys2Proof.Machine.execRdPattern1 s
  | .wrPattern1 data => Sys2Proof.Machine.execWrPattern1 data s
  | .rdTotalLen => Sys2Proof.Machine.execRdTotalLen s
  | .wrTotalLen data => Sys2Proof.Machine.execWrTotalLen data s
  | .rdMaxLen => Sys2Proof.Machine.execRdMaxLen s
  | .wrMaxLen data => Sys2Proof.Machine.execWrMaxLen data s
  | .rdLenCfg => Sys2Proof.Machine.execRdLenCfg s
  | .wrLenCfg data => Sys2Proof.Machine.execWrLenCfg data s
  | .rdFrameLen => Sys2Proof.Machine.execRdFrameLen s
  | .wrFrameLen data => Sys2Proof.Machine.execWrFrameLen data s
  | .rdCaps => Sys2Proof.Machine.execRdCaps s
  | .wrCaps data => Sys2Proof.Machine.execWrCaps data s
  | .rdFrameWin k => Sys2Proof.Machine.execRdFrameWin k s
  | .wrFrameWin k data => Sys2Proof.Machine.execWrFrameWin k data s
  | .rdUnmapped addr => Sys2Proof.Machine.execRdUnmapped addr s
  | .wrUnmapped addr data => Sys2Proof.Machine.execWrUnmapped addr data s
  | .rxByte b => Sys2Proof.Machine.execRxByte b s
  | .rxTimeout => Sys2Proof.Machine.execRxTimeout s
  | .rxFault => Sys2Proof.Machine.execRxFault s
  | .engineStep => Sys2Proof.Machine.execEngineStep s
  | .refusedPort => Sys2Proof.Machine.execRefusedPort s
  | .refusedStreamKind => Sys2Proof.Machine.execRefusedStreamKind s
  | .refusedHostRsv => Sys2Proof.Machine.execRefusedHostRsv s
  | .refusedMisalignedA0 => Sys2Proof.Machine.execRefusedMisalignedA0 s
  | .refusedMisalignedA1 => Sys2Proof.Machine.execRefusedMisalignedA1 s

end Sys2Proof.Machine
end

