-- ==== Sys2Proof/Machine/Step.lean ====
section
/-! DEFINITION. One step of the machine: the next event of the trace (30_encoding.md R80, R93). -/
namespace Sys2Proof.Machine

/-- One step. With no event left nobody acts and the state stays as it is (R105, R265; log 3). A
descriptor is decoded and performed. `DRAIN` performs one `ENGINE_STEP` while one is enabled and is then
done (R92; log 17). A hardware reset is one atomic step (R250). -/
def step (s : State) : Host.Outcome State Fault Refusal :=
  match s.trace with
  | [] => .next s
  | .descriptor d :: rest => exec (decode d) (s.withTrace rest)
  | .drain :: rest => if s.engineEnabled then exec .engineStep s else .next (s.withTrace rest)
  | .hardwareReset :: rest => .next (s.withTrace rest).hardwareReset

/-- `s` with the descriptor of value `w` (its bits above `nbits` zero) placed where `step` takes its next
event from: the front of the trace (log 2). Of a word wider than 48 bits, which is no descriptor (R90) and
which `decodeTableWord` refuses, the low 48 bits are placed (DESIGN CHOICE, log 20). -/
def State.withFetchWord (s : State) (nbits w : Nat) : State :=
  s.placeDescriptor (BitVec.ofNat 48 (w % 2 ^ nbits))

end Sys2Proof.Machine
end

