-- ==== Sys2Proof/Machine/Assembler.lean ====
section
/-! DEFINITION. The written form of operations: the lines of 30_encoding.md R91, the pseudo-operations of
R92, the eager schedule of R93, and a reader of the text form (log 19). A line stands for events of a
trace. -/
namespace Sys2Proof.Machine

/-! ## Lines (R91, R92) -/

/-- The register names of R91; `win k` is `WIN[k]`. -/
inductive RegName
  | ctrl
  | status
  | cmd
  | irqEn
  | frameCfg
  | pattern0
  | pattern1
  | totalLen
  | maxLen
  | lenCfg
  | frameLen
  | caps
  | win (k : BitVec 8)
  deriving DecidableEq, Repr

/-- One line of a written program: the six operations of R91 and the pseudo-operations of R92. -/
inductive AsmLine
  /-- `RD`, with the value a `->` records, if the line has one. -/
  | rd (addr : Offset) (recorded : Option Word)
  | wr (addr : Offset) (imm : Word)
  | rx (b : Byte)
  | tmo
  | flt
  | stp
  | enable
  | disable
  | accept
  | reject
  | srst
  | clr (mask : Word)
  | rxs (bytes : List Byte)
  | drain
  deriving DecidableEq, Repr

/-- The offset of a named register (10_state.md section 3). -/
def RegName.offset : RegName → Offset
  | .ctrl => 0x000#12
  | .status => 0x004#12
  | .cmd => 0x008#12
  | .irqEn => 0x00C#12
  | .frameCfg => 0x010#12
  | .pattern0 => 0x014#12
  | .pattern1 => 0x018#12
  | .totalLen => 0x01C#12
  | .maxLen => 0x020#12
  | .lenCfg => 0x024#12
  | .frameLen => 0x028#12
  | .caps => 0x02C#12
  | .win k => windowOffset k

/-- The events a line stands for: its descriptor (R91), or its expansion (R92). -/
def AsmLine.events : AsmLine → List Event
  | .rd addr _ => [.descriptor (hostDescriptor false addr 0#32)]
  | .wr addr imm => [.descriptor (hostDescriptor true addr imm)]
  | .rx b => [.descriptor (streamDescriptor 0#2 b)]
  | .tmo => [.descriptor (streamDescriptor 1#2 0#8)]
  | .flt => [.descriptor (streamDescriptor 2#2 0#8)]
  | .stp => [.descriptor engineDescriptor]
  | .enable => [.descriptor (hostDescriptor true RegName.ctrl.offset 0x1#32)]
  | .disable => [.descriptor (hostDescriptor true RegName.ctrl.offset 0x0#32)]
  | .accept => [.descriptor (hostDescriptor true RegName.cmd.offset 0x1#32)]
  | .reject => [.descriptor (hostDescriptor true RegName.cmd.offset 0x2#32)]
  | .srst => [.descriptor (hostDescriptor true RegName.cmd.offset 0xF#32)]
  | .clr mask => [.descriptor (hostDescriptor true RegName.status.offset mask)]
  | .rxs bytes => bytes.map fun b => .descriptor (streamDescriptor 0#2 b)
  | .drain => [.drain]

/-- A program's events as listed, with no engine step added. -/
def programEvents (lines : List AsmLine) : List Event := lines.flatMap AsmLine.events

/-- The eager schedule: after every listed operation, and after each `RX` of an `RXS`, a `DRAIN` (R93). -/
def eagerEvents (lines : List AsmLine) : List Event :=
  (programEvents lines).flatMap fun e => [e, .drain]

/-- The values the lines record for their reads, in order; `none` for a `RD` with no `->` (R91). -/
def recordedReads (lines : List AsmLine) : List (Option Word) :=
  lines.filterMap fun l =>
    match l with
    | .rd _ recorded => some recorded
    | _ => none

/-! ## Reading the text form (R91, R92) -/

/-- A token of a line. -/
inductive Token
  | word (w : List Char)
  | comma
  /-- A quoted string, as its bytes. -/
  | quoted (bytes : List Byte)
  deriving DecidableEq, Repr

/-- Where the reader stands in a line; the accumulators are reversed. -/
inductive LexPlace
  | outside (w : List Char)
  | inside (bytes : List Byte)
  | escaped (bytes : List Byte)
  deriving DecidableEq, Repr

/-- A character's byte: its ASCII code (R9, R92). A character that is not ASCII has none
(DESIGN CHOICE, log 25). -/
def byteOfChar (ch : Char) : Option Byte :=
  if ch.toNat < 128 then some (BitVec.ofNat 8 ch.toNat) else none

/-- The word collected so far as a token, if it has any character. -/
def flushWord (w : List Char) : List Token := if w.isEmpty then [] else [.word w.reverse]

/-- A line's tokens: words are separated by spaces and commas, `;` starts a comment, and in a quoted
string `\r` is 0x0D and `\n` is 0x0A (R91, R92). Any other escape, a backslash or a quote among them, makes
the line unreadable, and so does a character that is not ASCII (DESIGN CHOICE, log 25). -/
def lexLine : LexPlace → List Char → Option (List Token)
  | .outside w, [] => some (flushWord w)
  | .inside _, [] => none
  | .escaped _, [] => none
  | .outside w, ch :: rest =>
    if ch = ';' then some (flushWord w)
    else if ch = ' ' then (lexLine (.outside []) rest).map (flushWord w ++ ·)
    else if ch = ',' then (lexLine (.outside []) rest).map (flushWord w ++ Token.comma :: ·)
    else if ch = '"' then (lexLine (.inside []) rest).map (flushWord w ++ ·)
    else lexLine (.outside (ch :: w)) rest
  | .inside bytes, ch :: rest =>
    if ch = '"' then (lexLine (.outside []) rest).map (Token.quoted bytes.reverse :: ·)
    else if ch = '\\' then lexLine (.escaped bytes) rest
    else
      match byteOfChar ch with
      | some b => lexLine (.inside (b :: bytes)) rest
      | none => none
  | .escaped bytes, ch :: rest =>
    if ch = 'r' then lexLine (.inside (0x0D#8 :: bytes)) rest
    else if ch = 'n' then lexLine (.inside (0x0A#8 :: bytes)) rest
    else none

/-- A digit of either base. -/
def digitOf (ch : Char) : Option Nat :=
  if '0' ≤ ch ∧ ch ≤ '9' then some (ch.toNat - 0x30)
  else if 'a' ≤ ch ∧ ch ≤ 'f' then some (ch.toNat - 0x57)
  else if 'A' ≤ ch ∧ ch ≤ 'F' then some (ch.toNat - 0x37)
  else none

/-- The digits of a number in a base, most significant first; `_` only separates (log 19). -/
def readDigits (base acc : Nat) : List Char → Option Nat
  | [] => some acc
  | ch :: rest =>
    if ch = '_' then readDigits base acc rest
    else
      match digitOf ch with
      | some v => if v < base then readDigits base (acc * base + v) rest else none
      | none => none

/-- A number: `0x..` is hex, anything else decimal (R91). -/
def readNumber : List Char → Option Nat
  | [] => none
  | ['0', 'x'] => none
  | '0' :: 'x' :: rest => readDigits 16 0 rest
  | w => readDigits 10 0 w

/-- A number that fits in `n` bits. -/
def readBits (n : Nat) (w : List Char) : Option (BitVec n) :=
  match readNumber w with
  | some v => if v < 2 ^ n then some (BitVec.ofNat n v) else none
  | none => none

/-- A byte operand of `RXS`: written in hex, with or without `0x` (95_test_vectors.md; log 19). -/
def readByte (w : List Char) : Option Byte :=
  match w with
  | '0' :: 'x' :: _ => readBits 8 w
  | _ => readBits 8 ('0' :: 'x' :: w)

/-- A register name, `WIN[k]` among them (R91). -/
def readRegName (w : List Char) : Option RegName :=
  if w = "CTRL".toList then some .ctrl
  else if w = "STATUS".toList then some .status
  else if w = "CMD".toList then some .cmd
  else if w = "IRQ_EN".toList then some .irqEn
  else if w = "FRAME_CFG".toList then some .frameCfg
  else if w = "PATTERN0".toList then some .pattern0
  else if w = "PATTERN1".toList then some .pattern1
  else if w = "TOTAL_LEN".toList then some .totalLen
  else if w = "MAX_LEN".toList then some .maxLen
  else if w = "LEN_CFG".toList then some .lenCfg
  else if w = "FRAME_LEN".toList then some .frameLen
  else if w = "CAPS".toList then some .caps
  else if w.take 4 = "WIN[".toList ∧ w.getLast? = some ']' then
    (readBits 8 ((w.drop 4).dropLast)).map .win
  else none

/-- A register name or an offset (R91). -/
def readTarget (w : List Char) : Option Offset :=
  match readRegName w with
  | some r => some r.offset
  | none => readBits 12 w

/-- The bytes of an `RXS` line: quoted characters or bytes (R92). One line may mix the two forms or hold
several strings (DESIGN CHOICE, log 25). -/
def readRxs : List Token → Option (List Byte)
  | [] => some []
  | .quoted bytes :: rest => (readRxs rest).map (bytes ++ ·)
  | .word w :: rest =>
    match readByte w with
    | some b => (readRxs rest).map (b :: ·)
    | none => none
  | .comma :: _ => none

/-- One line from its tokens. -/
def readTokens : List Token → Option AsmLine
  | [.word op] =>
    if op = "TMO".toList then some .tmo
    else if op = "FLT".toList then some .flt
    else if op = "STEP".toList then some .stp
    else if op = "ENABLE".toList then some .enable
    else if op = "DISABLE".toList then some .disable
    else if op = "ACCEPT".toList then some .accept
    else if op = "REJECT".toList then some .reject
    else if op = "SRST".toList then some .srst
    else if op = "DRAIN".toList then some .drain
    else none
  | .word op :: args =>
    if op = "RXS".toList then (readRxs args).map .rxs
    else
      match args with
      | [.word a] =>
        if op = "RD".toList then (readTarget a).map fun off => .rd off none
        else if op = "RX".toList then (readBits 8 a).map .rx
        else if op = "CLR".toList then (readBits 32 a).map .clr
        else none
      | [.word a, .comma, .word v] =>
        if op = "WR".toList then
          match readTarget a, readBits 32 v with
          | some off, some imm => some (.wr off imm)
          | _, _ => none
        else none
      | [.word a, .word arrow, .word v] =>
        if op = "RD".toList ∧ arrow = "->".toList then
          match readTarget a, readBits 32 v with
          | some off, some value => some (.rd off (some value))
          | _, _ => none
        else none
      | _ => none
  | _ => none

/-- One line of text; a line with no operation (blank or comment only) is not an operation. -/
def readLine (text : List Char) : Option AsmLine :=
  match lexLine (.outside []) text with
  | some tokens => readTokens tokens
  | none => none

end Sys2Proof.Machine
end

