-- ==== Sys2Proof/Safety.lean ====
section
/-! DEFINITION. The terms claims are stated in: what a candidate is (41_frame_engine.md), the invariant of
10_state.md section 4, reachable states, engine runs, and how a run ends (70_reset_and_hazards.md R265). -/
namespace Sys2Proof.Machine

/-! ## Candidates, said without the engine: `l` is the bytes from a start position on -/

/-- The checksum strategy of the configured mode (R3, R157). -/
def State.algorithm (s : State) : Algorithm :=
  match s.mode with
  | .text => .xor8
  | _ => .add16

/-- The bytes agree with the start pattern as far as both go (R44, R121). -/
def State.beginsPattern (s : State) (l : List Byte) : Prop :=
  ∀ k, k < l.length → k < s.patLen → l[k]? = s.patternByte k

/-- No LF among the bytes from index `P` up to index `n` (R126). -/
def State.noLfBefore (s : State) (l : List Byte) (n : Nat) : Prop :=
  ∀ k, s.patLen ≤ k → k < n → l[k]? ≠ some 0x0A#8

/-- The length field is complete in `l` and announces a length within R123's bounds. -/
def State.announcesLegal (s : State) (l : List Byte) : Prop :=
  s.lenEnd + 2 ≤ s.announcedLen l ∧ s.announcedLen l ≤ s.maxLen.toNat

/-- `n` is the terminal length of the candidate that starts `l` (R122, R123, R126; glossary). -/
def State.terminal (s : State) (l : List Byte) (n : Nat) : Prop :=
  match s.mode with
  | .binFixed => n = s.totalLen.toNat
  | .binLenfield => s.lenEnd ≤ n ∧ s.announcesLegal l ∧ n = s.announcedLen l
  | .text => s.patLen < n ∧ n ≤ s.maxLen.toNat ∧ l[n - 1]? = some 0x0A#8 ∧ s.noLfBefore l (n - 1)
  | .reserved => False

/-- The first `n` bytes of `l` form a valid frame (R125, R127). -/
def State.framesAt (s : State) (l : List Byte) (n : Nat) : Prop :=
  n ≤ l.length ∧ s.beginsPattern (l.take n) ∧ s.terminal l n ∧
    validate s.algorithm (l.take n) = .valid

/-- The bytes `l`, all examined, are a candidate that is neither complete nor rejected (R121 to R126). -/
def State.openCandidate (s : State) (l : List Byte) : Prop :=
  s.beginsPattern l ∧ l.length < s.lmax ∧
    match s.mode with
    | .binFixed => True
    | .binLenfield => s.lenEnd ≤ l.length → s.announcesLegal l ∧ l.length < s.announcedLen l
    | .text => s.noLfBefore l l.length
    | .reserved => False

/-- The byte `x` is a checksum digit of value `h` (R152). -/
def digitValue (x : Byte) (h : Nat) : Prop :=
  (0x30 ≤ x.toNat ∧ x.toNat ≤ 0x39 ∧ h + 0x30 = x.toNat) ∨
    (0x41 ≤ x.toNat ∧ x.toNat ≤ 0x46 ∧ h + 0x37 = x.toNat)

/-- The text line `l` is a start marker, a body with no `*`, a `*`, the two digits `d1` and `d2` of values
`h1` and `h2`, CR and LF (R153). -/
def textLine (l body : List Byte) (h1 h2 : Nat) : Prop :=
  ∃ m d1 d2, l = m :: body ++ [0x2A#8, d1, d2, 0x0D#8, 0x0A#8] ∧ 0x2A#8 ∉ body ∧
    digitValue d1 h1 ∧ digitValue d2 h2

/-! ## The invariant -/

/-- What holds in every reachable state (R23 to R26, R44, R50 to R52, R7). -/
structure State.Inv (s : State) : Prop where
  /-- `MAX_FRAME` is one of R7's values. -/
  params_legal : s.params.legal = true
  /-- `SCAN ≤ len(BUF)` (R50). -/
  scan_le : s.scan ≤ s.buf.length
  /-- `len(BUF) ≤ MAX_FRAME` (R50). -/
  buf_le : s.buf.length ≤ s.params.maxFrame
  /-- An enabled block has a legal configuration (R33, R171). -/
  enabled_legal : s.en = true → s.legal = true
  /-- A disabled block holds nothing (R51). -/
  idle_empty : s.en = false → s.buf = [] ∧ s.scan = 0 ∧ s.ready = false
  /-- A faulted block has no pending bytes, and no bytes at all without a ready frame (R52). -/
  fault_quiet : s.fault = true → s.buf.length = s.scan ∧ (s.ready = false → s.buf = [])
  /-- While faulted, `LAST_CAUSE` is IOFAULT (R104), and the history flag is set (I10). -/
  fault_cause : s.fault = true → s.lastCause = .ioFault ∧ s.faultSeen = true
  /-- While the block collects, BUF[0..SCAN) is an open candidate; so it begins with the pattern (R44) and
  `SCAN < Lmax` (R50). -/
  candidate_open : s.en = true → s.fault = false → s.ready = false → s.openCandidate (s.buf.take s.scan)
  /-- `READY` = 1 exactly on a validated frame: BUF[0..SCAN) begins with the pattern, has its terminal
  length and validates (R25, R44). -/
  ready_frame : s.ready = true → s.framesAt s.buf s.scan

/-- A state some run from a hardware reset reaches, whatever the parameters and the trace. -/
inductive Reachable : State → Prop
  | reset (p : Params) (legal : p.legal = true) (trace : List Event) :
      Reachable ((State.resetWith p).withTrace trace)
  | step (s t : State) (before : Reachable s) (one : step s = .next t) : Reachable t

/-- When an operation has a step (R12): a byte under `rx_ready` (R100), an engine step when enabled (R120),
a refused descriptor never (R86), every other operation always (R103, R104, R222). -/
def enabledIn (i : Instr) (s : State) : Bool :=
  match i with
  | .rxByte _ => s.rxReady
  | .engineStep => s.engineEnabled
  | .refusedPort | .refusedStreamKind | .refusedHostRsv | .refusedMisalignedA0 | .refusedMisalignedA1 => false
  | .rdCtrl | .wrCtrl _ | .rdStatus | .wrStatus _ | .rdCmd | .cmdAccept | .cmdReject | .cmdSoftReset => true
  | .cmdReserved _ | .rdIrqEn | .wrIrqEn _ | .rdFrameCfg | .wrFrameCfg _ | .rdPattern0 | .wrPattern0 _ => true
  | .rdPattern1 | .wrPattern1 _ | .rdTotalLen | .wrTotalLen _ | .rdMaxLen | .wrMaxLen _ => true
  | .rdLenCfg | .wrLenCfg _ | .rdFrameLen | .wrFrameLen _ | .rdCaps | .wrCaps _ => true
  | .rdFrameWin _ | .wrFrameWin _ _ | .rdUnmapped _ | .wrUnmapped _ _ | .rxTimeout | .rxFault => true

/-! ## Engine runs -/

/-- `k` engine steps in a row, if each is enabled (R130). -/
def engineRun : Nat → State → Option State
  | 0, s => some s
  | k + 1, s =>
    match exec .engineStep s with
    | .next t => engineRun k t
    | .fault _ => none
    | .refused _ => none

/-- `k` steps of the machine, stopping at the first that has no next state. -/
def runSteps : Nat → State → Host.Outcome State Fault Refusal
  | 0, s => .next s
  | k + 1, s =>
    match step s with
    | .next t => runSteps k t
    | .fault f => .fault f
    | .refused r => .refused r

/-! ## Runs without end, and fairness of the Engine (R130, R264, D30; log 9)

A run is an interleaving that goes on for ever: at each instant one event happens, or nobody acts (R70, R105).
Time is no more than the order of the events. -/

/-- What one instant of a run does: the event's own step, or nothing. -/
def State.moves (s : State) (e : Option Event) (t : State) : Prop :=
  match e with
  | none => t = s
  | some e => step (s.withTrace [e]) = .next t

/-- At this instant the Engine has its turn: a `STEP`, or a `DRAIN`, which performs one while it is enabled. -/
def engineActs (e : Option Event) : Bool :=
  match e with
  | none => false
  | some (.descriptor d) => decide (decode d = .engineStep)
  | some .drain => true
  | some .hardwareReset => false

/-- At this instant the Source offers a byte. -/
def byteArrives (e : Option Event) : Bool :=
  match e with
  | none => false
  | some (.descriptor d) => decide (decode d = .rxByte (byteOf d))
  | some .drain => false
  | some .hardwareReset => false

/-- `events` happen one after the other, and `states k` is the state before the `k`-th of them. -/
def IsRun (states : Nat → State) (events : Nat → Option Event) : Prop :=
  ∀ k, (states k).moves (events k) (states (k + 1))

/-- Weak fairness of the Engine: an engine step that stays enabled from some instant on is taken (R130). -/
def WeaklyFair (states : Nat → State) (events : Nat → Option Event) : Prop :=
  ∀ k, (∀ j, k ≤ j → (states j).engineEnabled = true) → ∃ j, k ≤ j ∧ engineActs (events j) = true

/-- How many engine steps are performed from instant `k` up to instant `j`. -/
def engineSteps (states : Nat → State) (events : Nat → Option Event) (k j : Nat) : Nat :=
  ((List.range' k (j - k)).filter fun m => (states m).engineEnabled && engineActs (events m)).length

/-! ## The end of a run (R265) -/

/-- A run of a written program has ended: its last operation is done and no `ENGINE_STEP` is enabled. -/
def State.runEnded (s : State) : Prop := s.trace = [] ∧ s.engineEnabled = false

/-- The next listed event cannot be performed: the run is stuck, not ended (R93, R265). -/
def State.stuck (s : State) : Prop := ∃ f, step s = .fault f

/-- A safe run: `k` steps from `s` meet no refused descriptor and no disabled step. -/
def State.safeFor (s : State) (k : Nat) : Prop := ∃ t, runSteps k s = .next t

end Sys2Proof.Machine
end

