-- ==== Sys2Proof/Certificates/Slice0/Obligations.lean ====
section
/-! DEFINITION. The statements about FSYNC for the provers. Each docstring names the rule it formalises. -/

open Sys2Proof Sys2Proof.Machine

/-! ## Encoding (30_encoding.md) -/

/-- Decode and encode agree on every well-formed operation, at every operand value (R81 to R84, R87). -/
def Obligations.DecodeOfEncodeIsTheOperation : Prop :=
  ∀ i : Instr, i.wellFormed = true → decode (encode i) = i

/-- R85: decoding is total, takes the matching row of lowest priority number of opcode_table.json, and no
two rows of one priority match one descriptor. -/
def Obligations.DecodingTakesTheLowestMatchingRow : Prop :=
  (∀ d : Descriptor, ∃ r ∈ opcodeTable, r.accepts d = true ∧ r.mnemonic = (decode d).mnemonic ∧
      ∀ r' ∈ opcodeTable, r'.accepts d = true → r.priority ≤ r'.priority) ∧
    ∀ d : Descriptor, ∀ r ∈ opcodeTable, ∀ r' ∈ opcodeTable,
      r.accepts d = true → r'.accepts d = true → r.priority = r'.priority → r = r'

/-- The operands of a decoded operation are the bits R81, R82 and R87 name: DATA is bits 31:0, ADDR bits
43:32, BYTE bits 7:0, CODE DATA[3:0], and window word `k` stands at offset 0x400 + 4k. -/
def Obligations.OperandsAreTheNamedBits : Prop :=
  ∀ d : Descriptor,
    (∀ b, decode d = .rxByte b → b.toNat = d.toNat % 256) ∧
    (∀ data, decode d = .wrCtrl data ∨ decode d = .wrStatus data ∨ decode d = .wrIrqEn data ∨
        decode d = .wrFrameCfg data ∨ decode d = .wrPattern0 data ∨ decode d = .wrPattern1 data ∨
        decode d = .wrTotalLen data ∨ decode d = .wrMaxLen data ∨ decode d = .wrLenCfg data ∨
        decode d = .wrFrameLen data ∨ decode d = .wrCaps data ∨ (∃ k, decode d = .wrFrameWin k data) ∨
        (∃ a, decode d = .wrUnmapped a data) → data.toNat = d.toNat % 2 ^ 32) ∧
    (∀ code, decode d = .cmdReserved code → code.toNat = d.toNat % 16) ∧
    (∀ k, (decode d = .rdFrameWin k ∨ ∃ data, decode d = .wrFrameWin k data) →
        d.toNat / 2 ^ 32 % 2 ^ 12 = 0x400 + 4 * k.toNat) ∧
    (∀ a, (decode d = .rdUnmapped a ∨ ∃ data, decode d = .wrUnmapped a data) →
        a.toNat = d.toNat / 2 ^ 32 % 2 ^ 12)

/-- The bits R81 to R83 and R87 call ignored do not change the operation (I15, I16): DATA of a read, bits
43:8 of a STREAM descriptor (and BYTE unless it is RX_BYTE), bits 45:0 of an ENGINE descriptor, and
DATA[31:4] of a CMD write. -/
def Obligations.IgnoredBitsDoNotMatter : Prop :=
  ∀ d d' : Descriptor,
    (d.toNat / 2 ^ 32 = d'.toNat / 2 ^ 32 → d.getLsbD 45 = false → portOf d = 0#2 → decode d = decode d') ∧
    (portOf d = 1#2 → d.toNat / 2 ^ 44 = d'.toNat / 2 ^ 44 →
        (kindOf d = 0#2 → d.toNat % 256 = d'.toNat % 256) → decode d = decode d') ∧
    (portOf d = 3#2 → portOf d' = 3#2 → decode d = decode d') ∧
    (d.toNat / 2 ^ 32 = 0x2008 → d'.toNat / 2 ^ 32 = 0x2008 → d.toNat % 16 = d'.toNat % 16 →
        decode d = decode d')

/-- Every descriptor decodes to a well-formed operation (R84, R85). -/
def Obligations.DecodedOperationsAreWellFormed : Prop :=
  ∀ d : Descriptor, (decode d).wellFormed = true

/-- The descriptors R91 and 95_test_vectors.md write out decode to the operations they stand for. -/
def Obligations.WrittenDescriptorsDecode : Prop :=
  decode 0x200000000001#48 = .wrCtrl 0x1#32 ∧ decode 0x000400000000#48 = .rdStatus ∧
    decode 0x400000000042#48 = .rxByte 0x42#8 ∧ decode 0x500000000000#48 = .rxTimeout ∧
    decode 0x600000000000#48 = .rxFault ∧ decode 0xC00000000000#48 = .engineStep ∧
    decode 0x20080000000F#48 = .cmdSoftReset ∧ decode 0x202400040102#48 = .wrLenCfg 0x00040102#32 ∧
    decode 0x041C00000000#48 = .rdFrameWin 7#8

/-! ## Steps -/

/-- A step performs the descriptor at the front of the trace: it is `exec` of the decoded operation, on the
state whose trace is the rest (R80, R93). -/
def Obligations.StepPerformsTheDecodedDescriptor : Prop :=
  ∀ (s : State) (d : Descriptor) (rest : List Event), s.trace = .descriptor d :: rest →
    step s = exec (decode d) { s with trace := rest }

/-- R86: a refused descriptor has no step. Each clause is one refusal of R84, by its bits, and names the
refusal the model gives it. -/
def Obligations.RefusedDescriptorsHaveNoStep : Prop :=
  ∀ (s : State) (d : Descriptor) (rest : List Event), s.trace = .descriptor d :: rest →
    (d.toNat / 2 ^ 46 = 2 → step s = .refused .reservedPort) ∧
    (d.toNat / 2 ^ 44 = 7 → step s = .refused .reservedStreamKind) ∧
    (d.toNat / 2 ^ 46 = 0 → d.getLsbD 44 = true → step s = .refused .reservedHostBit) ∧
    (d.toNat / 2 ^ 46 = 0 → d.getLsbD 44 = false → d.getLsbD 32 = true →
        step s = .refused .misalignedAddr0) ∧
    (d.toNat / 2 ^ 46 = 0 → d.getLsbD 44 = false → d.getLsbD 33 = true → d.getLsbD 32 = false →
        step s = .refused .misalignedAddr1)

/-- R86 for the operations the five refused rows decode to: none has an effect in any state. -/
def Obligations.RefusedOperationsStop : Prop :=
  ∀ s : State,
    exec .refusedPort s = .refused .reservedPort ∧
    exec .refusedStreamKind s = .refused .reservedStreamKind ∧
    exec .refusedHostRsv s = .refused .reservedHostBit ∧
    exec .refusedMisalignedA0 s = .refused .misalignedAddr0 ∧
    exec .refusedMisalignedA1 s = .refused .misalignedAddr1

/-- R250: a hardware reset is one atomic step that puts every piece of state at its hardware-reset value;
after it STATUS and FRAME_LEN read 0, and `rx_ready` and `irq` are 0. -/
def Obligations.HardwareResetStepResetsEverything : Prop :=
  ∀ (s : State) (rest : List Event), s.trace = .hardwareReset :: rest →
    ∃ t, step s = .next t ∧ t.en = false ∧ t.frameCfg = ⟨0#2, 0#4⟩ ∧ t.pattern0 = 0#32 ∧
      t.pattern1 = 0#32 ∧ t.totalLen = 0#16 ∧ t.maxLen = 0#16 ∧ t.lenCfg = ⟨0#8, 0#1, 0#8⟩ ∧
      t.irqEn = 0#5 ∧ t.buf = [] ∧ t.scan = 0 ∧ t.ready = false ∧ t.fault = false ∧
      t.invalid = false ∧ t.resync = false ∧ t.cfgErr = false ∧ t.lastCause = .none ∧
      t.statusWord = 0#32 ∧ t.engineState = .idle ∧ t.frameLenWord = 0#32 ∧ (∀ k, t.winWord k = 0#32) ∧
      t.rxReady = false ∧ t.irq = false

/-- The model's own choice (log 11), no rule of the spec: a hardware reset keeps the parameters, the host's
record of reads, the history flag and the events still to come. -/
def Obligations.HardwareResetKeepsTheModelsOwnFields : Prop :=
  ∀ (s t : State) (rest : List Event), s.trace = .hardwareReset :: rest → step s = .next t →
    t.params = s.params ∧ t.reads = s.reads ∧ t.faultSeen = s.faultSeen ∧ t.trace = rest

/-- R92, the model's own form (log 3, 17): a `DRAIN` performs an engine step while one is enabled and is
then done; with no event left nobody acts. -/
def Obligations.DrainAndTheEndOfTheTrace : Prop :=
  ∀ s : State,
    (s.trace = [] → step s = .next s) ∧
    (∀ rest, s.trace = .drain :: rest → s.engineEnabled = true → step s = exec .engineStep s) ∧
    (∀ rest, s.trace = .drain :: rest → s.engineEnabled = false → step s = .next { s with trace := rest })

/-! ## Host reads (43_host_access.md) -/

/-- R172, R174, R175 and R176: the descriptor of each read, the value it hands back, bit by bit, and that
nothing else changes. -/
def Obligations.ControlAndStatusReads : Prop :=
  (∀ data, decode (hostDescriptor false 0x000#12 data) = .rdCtrl ∧
      decode (hostDescriptor false 0x004#12 data) = .rdStatus ∧
      decode (hostDescriptor false 0x008#12 data) = .rdCmd ∧
      decode (hostDescriptor false 0x00C#12 data) = .rdIrqEn) ∧
  ∀ s : State,
    (∃ v, exec .rdCtrl s = .next { s with reads := v :: s.reads } ∧ v.toNat = s.en.toNat) ∧
    exec .rdCmd s = .next { s with reads := 0#32 :: s.reads } ∧
    (∃ v, exec .rdIrqEn s = .next { s with reads := v :: s.reads } ∧ v.toNat = s.irqEn.toNat) ∧
    (∃ v, exec .rdStatus s = .next { s with reads := v :: s.reads } ∧
      v.getLsbD 0 = s.ready ∧ v.getLsbD 1 = s.fault ∧ v.getLsbD 2 = s.invalid ∧
      v.getLsbD 3 = s.resync ∧ v.getLsbD 4 = s.cfgErr ∧ v.extractLsb' 5 3 = 0#3 ∧
      v.extractLsb' 8 3 = (if s.fault then 4#3 else if s.en = false then 0#3 else if s.ready then 3#3
        else if s.scan < s.frameCfg.patLen.toNat then 1#3 else 2#3) ∧
      v.getLsbD 11 = false ∧ v.extractLsb' 12 4 = s.lastCause.code ∧
      v.extractLsb' 16 16 = BitVec.ofNat 16 (s.buf.length - s.scan) ∧
      (s.Inv → (v.extractLsb' 16 16).toNat + s.scan = s.buf.length))

/-- R178, R180, R182, R184, R186 and R188: the descriptor of each configuration read; it hands back the
fields at their bit positions and 0 elsewhere. -/
def Obligations.ConfigurationReads : Prop :=
  (∀ data, decode (hostDescriptor false 0x010#12 data) = .rdFrameCfg ∧
      decode (hostDescriptor false 0x014#12 data) = .rdPattern0 ∧
      decode (hostDescriptor false 0x018#12 data) = .rdPattern1 ∧
      decode (hostDescriptor false 0x01C#12 data) = .rdTotalLen ∧
      decode (hostDescriptor false 0x020#12 data) = .rdMaxLen ∧
      decode (hostDescriptor false 0x024#12 data) = .rdLenCfg) ∧
  ∀ s : State,
    (∃ v, exec .rdFrameCfg s = .next { s with reads := v :: s.reads } ∧
      v.toNat = s.frameCfg.mode.toNat + 16 * s.frameCfg.patLen.toNat) ∧
    exec .rdPattern0 s = .next { s with reads := s.pattern0 :: s.reads } ∧
    exec .rdPattern1 s = .next { s with reads := s.pattern1 :: s.reads } ∧
    (∃ v, exec .rdTotalLen s = .next { s with reads := v :: s.reads } ∧ v.toNat = s.totalLen.toNat) ∧
    (∃ v, exec .rdMaxLen s = .next { s with reads := v :: s.reads } ∧ v.toNat = s.maxLen.toNat) ∧
    (∃ v, exec .rdLenCfg s = .next { s with reads := v :: s.reads } ∧
      v.toNat = s.lenCfg.lenOff.toNat + 2 ^ 8 * s.lenCfg.lenW.toNat + 2 ^ 16 * s.lenCfg.lenBias.toNat)

/-- R190 and R191: FRAME_LEN reads SCAN while a frame is ready and 0 otherwise, CAPS reads MAX_PAT = 8
above MAX_FRAME. The two values are stated where they fit their fields: in states that meet the
invariant (FRAME_LEN) and for the parameters R7 allows (CAPS). -/
def Obligations.FrameLengthAndCapsReads : Prop :=
  (∀ data, decode (hostDescriptor false 0x028#12 data) = .rdFrameLen ∧
      decode (hostDescriptor false 0x02C#12 data) = .rdCaps) ∧
  ∀ s : State,
    (∃ v, exec .rdFrameLen s = .next { s with reads := v :: s.reads } ∧
      (s.ready = false → v = 0#32) ∧ (s.Inv → s.ready = true → v.toNat = s.scan) ∧
      v.extractLsb' 16 16 = 0#16) ∧
    (∃ v, exec .rdCaps s = .next { s with reads := v :: s.reads } ∧
      (s.params.legal = true → v.toNat = 2 ^ 16 * 8 + s.params.maxFrame))

/-- R195 and R47: byte `j` of window word `k` is BUF[4k + j] while a frame that long is ready, and 0x00
otherwise. -/
def Obligations.WindowReadsShowTheReadyFrame : Prop :=
  ∀ (s : State) (k : BitVec 8),
    (∀ (addr : Offset) (data : Word), addr.toNat = 0x400 + 4 * k.toNat →
      decode (hostDescriptor false addr data) = .rdFrameWin k) ∧
    ∃ v, exec (.rdFrameWin k) s = .next { s with reads := v :: s.reads } ∧
    ∀ j < 4,
      (s.ready = true → 4 * k.toNat + j < s.scan → ∀ b, s.buf[4 * k.toNat + j]? = some b →
        v.extractLsb' (8 * j) 8 = b) ∧
      (¬(s.ready = true ∧ 4 * k.toNat + j < s.scan) → v.extractLsb' (8 * j) 8 = 0#8)

/-- The register map of 10_state.md section 3 (R60, R63, R68): a read of any aligned offset hands back what
the map holds there, whatever DATA its descriptor carries, and changes nothing else. -/
def Obligations.AlignedReadsFollowTheRegisterMap : Prop :=
  ∀ (s : State) (addr : Offset) (data : Word), addr.toNat % 4 = 0 →
    exec (decode (hostDescriptor false addr data)) s = .next { s with reads := s.busRead addr :: s.reads }

/-- R193 and R194: an aligned access to an unmapped offset reads 0 and is ignored as a write. -/
def Obligations.UnmappedOffsetsReadZeroAndIgnoreWrites : Prop :=
  ∀ (s : State) (addr : Offset) (data : Word), addr.toNat % 4 = 0 →
    (0x030 ≤ addr.toNat ∧ addr.toNat ≤ 0x3FC) ∨ (0x800 ≤ addr.toNat ∧ addr.toNat ≤ 0xFFC) →
    decode (hostDescriptor false addr data) = .rdUnmapped addr ∧
    decode (hostDescriptor true addr data) = .wrUnmapped addr data ∧
    exec (.rdUnmapped addr) s = .next { s with reads := 0#32 :: s.reads } ∧
    exec (.wrUnmapped addr data) s = .next s

/-- R64's first part, over every operation: a step that hands a value back changes nothing else, so no
read has a side effect. -/
def Obligations.StepsThatHandBackAValueChangeNothingElse : Prop :=
  ∀ (i : Instr) (s t : State), exec i s = .next t → t.reads ≠ s.reads →
    { t with reads := s.reads } = s ∧ ∃ v, t.reads = v :: s.reads

/-- R47 and R224: no host read depends on the contents of bytes that are not a validated frame. Two states
that differ only in the bytes of BUF, and agree on the frame BUF[0..SCAN) if one is ready, hand back the same
values: neither a candidate nor the pending bytes behind a ready frame are seen. -/
def Obligations.UnvalidatedBytesAreInvisibleToTheHost : Prop :=
  ∀ (s : State) (other : List Byte) (i : Instr) (t : State), other.length = s.buf.length →
    (s.ready = true → other.take s.scan = s.buf.take s.scan) → exec i s = .next t → t.reads ≠ s.reads →
    exec i { s with buf := other } = .next { t with buf := other }

/-! ## Host writes (43_host_access.md) -/

/-- R171: enabling with a legal configuration, a failed enable, disabling, and the ignored writes, each
with its whole effect. -/
def Obligations.CtrlWriteEnablesAborts : Prop :=
  ∀ (s : State) (data : Word),
    decode (hostDescriptor true 0x000#12 data) = .wrCtrl data ∧
    (s.en = false → data.getLsbD 0 = true → s.legal = true →
      exec (.wrCtrl data) s = .next { s with en := true }) ∧
    (s.en = false → data.getLsbD 0 = true → s.legal = false →
      exec (.wrCtrl data) s = .next { s with cfgErr := true }) ∧
    (s.en = true → data.getLsbD 0 = false →
      exec (.wrCtrl data) s = .next { s with en := false, buf := [], scan := 0, ready := false }) ∧
    (s.en = data.getLsbD 0 → exec (.wrCtrl data) s = .next s)

/-- R54: what `Legal()` requires, by mode, over the stored fields. -/
def Obligations.LegalConfigurations : Prop :=
  ∀ s : State, s.legal = true ↔
    1 ≤ s.frameCfg.patLen.toNat ∧ s.frameCfg.patLen.toNat ≤ 8 ∧
      ((s.frameCfg.mode = 0#2 ∧ s.frameCfg.patLen.toNat + 2 ≤ s.totalLen.toNat ∧
          s.totalLen.toNat ≤ s.params.maxFrame) ∨
        (s.frameCfg.mode = 1#2 ∧ s.frameCfg.patLen.toNat ≤ s.lenCfg.lenOff.toNat ∧
          s.lenCfg.lenOff.toNat + (1 + s.lenCfg.lenW.toNat) + 2 ≤ s.maxLen.toNat ∧
          s.maxLen.toNat ≤ s.params.maxFrame) ∨
        (s.frameCfg.mode = 2#2 ∧ s.frameCfg.patLen.toNat + 5 ≤ s.maxLen.toNat ∧
          s.maxLen.toNat ≤ s.params.maxFrame))

/-- R173 and R177: a STATUS write clears exactly the sticky bits written as 1, an IRQ_EN write stores
DATA[4:0] whether or not the block is enabled, and neither changes anything else. -/
def Obligations.StatusAndInterruptEnableWrites : Prop :=
  ∀ (s : State) (data : Word),
    decode (hostDescriptor true 0x004#12 data) = .wrStatus data ∧
    decode (hostDescriptor true 0x00C#12 data) = .wrIrqEn data ∧
    (∃ t, exec (.wrStatus data) s = .next t ∧
      t = { s with invalid := t.invalid, resync := t.resync, cfgErr := t.cfgErr } ∧
      (t.invalid = true ↔ s.invalid = true ∧ data.getLsbD 2 = false) ∧
      (t.resync = true ↔ s.resync = true ∧ data.getLsbD 3 = false) ∧
      (t.cfgErr = true ↔ s.cfgErr = true ∧ data.getLsbD 4 = false)) ∧
    (∃ t, exec (.wrIrqEn data) s = .next t ∧ t = { s with irqEn := t.irqEn } ∧
      t.irqEn.toNat = data.toNat % 32)

/-- R170, R179, R181, R183, R185, R187 and R189: the descriptor of each configuration write; while `EN` = 0
it stores exactly its fields, taken from their bit positions in DATA, and while `EN` = 1 it changes nothing. -/
def Obligations.ConfigurationWritesStoreTheirFieldsOrAreLocked : Prop :=
  ∀ (s : State) (data : Word),
    (decode (hostDescriptor true 0x010#12 data) = .wrFrameCfg data ∧
      decode (hostDescriptor true 0x014#12 data) = .wrPattern0 data ∧
      decode (hostDescriptor true 0x018#12 data) = .wrPattern1 data ∧
      decode (hostDescriptor true 0x01C#12 data) = .wrTotalLen data ∧
      decode (hostDescriptor true 0x020#12 data) = .wrMaxLen data ∧
      decode (hostDescriptor true 0x024#12 data) = .wrLenCfg data) ∧
    (s.en = false →
      (∃ t, exec (.wrFrameCfg data) s = .next t ∧ t = { s with frameCfg := t.frameCfg } ∧
        t.frameCfg.mode.toNat = data.toNat % 4 ∧ t.frameCfg.patLen.toNat = data.toNat / 16 % 16) ∧
      exec (.wrPattern0 data) s = .next { s with pattern0 := data } ∧
      exec (.wrPattern1 data) s = .next { s with pattern1 := data } ∧
      (∃ t, exec (.wrTotalLen data) s = .next t ∧ t = { s with totalLen := t.totalLen } ∧
        t.totalLen.toNat = data.toNat % 2 ^ 16) ∧
      (∃ t, exec (.wrMaxLen data) s = .next t ∧ t = { s with maxLen := t.maxLen } ∧
        t.maxLen.toNat = data.toNat % 2 ^ 16) ∧
      (∃ t, exec (.wrLenCfg data) s = .next t ∧ t = { s with lenCfg := t.lenCfg } ∧
        t.lenCfg.lenOff.toNat = data.toNat % 2 ^ 8 ∧ t.lenCfg.lenW.toNat = data.toNat / 2 ^ 8 % 2 ∧
        t.lenCfg.lenBias.toNat = data.toNat / 2 ^ 16 % 2 ^ 8)) ∧
    (s.en = true →
      exec (.wrFrameCfg data) s = .next s ∧ exec (.wrPattern0 data) s = .next s ∧
      exec (.wrPattern1 data) s = .next s ∧ exec (.wrTotalLen data) s = .next s ∧
      exec (.wrMaxLen data) s = .next s ∧ exec (.wrLenCfg data) s = .next s)

/-- R88 and D37: read-back equals write, on the defined bits of each configuration register. -/
def Obligations.ConfigurationReadsBackWhatWasWritten : Prop :=
  ∀ (s t : State) (data : Word), s.en = false →
    (exec (.wrFrameCfg data) s = .next t → t.busRead 0x010#12 = data &&& 0x000000F3#32) ∧
    (exec (.wrPattern0 data) s = .next t → t.busRead 0x014#12 = data) ∧
    (exec (.wrPattern1 data) s = .next t → t.busRead 0x018#12 = data) ∧
    (exec (.wrTotalLen data) s = .next t → t.busRead 0x01C#12 = data &&& 0x0000FFFF#32) ∧
    (exec (.wrMaxLen data) s = .next t → t.busRead 0x020#12 = data &&& 0x0000FFFF#32) ∧
    (exec (.wrLenCfg data) s = .next t → t.busRead 0x024#12 = data &&& 0x00FF01FF#32) ∧
    (exec (.wrIrqEn data) s = .next t → t.busRead 0x00C#12 = data &&& 0x0000001F#32)

/-- R192 and R204: writes to FRAME_LEN, CAPS and the window, and reserved command codes, change no state. -/
def Obligations.IgnoredWritesChangeNothing : Prop :=
  ∀ (s : State) (data : Word) (k : BitVec 8) (code : BitVec 4),
    code ≠ 0x1#4 → code ≠ 0x2#4 → code ≠ 0xF#4 →
    decode (hostDescriptor true 0x028#12 data) = .wrFrameLen data ∧
    decode (hostDescriptor true 0x02C#12 data) = .wrCaps data ∧
    decode (hostDescriptor true (windowOffset k) data) = .wrFrameWin k data ∧
    (data.extractLsb' 0 4 = code → decode (hostDescriptor true 0x008#12 data) = .cmdReserved code) ∧
    exec (.wrFrameLen data) s = .next s ∧ exec (.wrCaps data) s = .next s ∧
    exec (.wrFrameWin k data) s = .next s ∧ exec (.cmdReserved code) s = .next s

/-- R74 and R170, over every operation: no operation changes a configuration register while `EN` = 1, and
none ever changes the parameters. -/
def Obligations.ConfigurationIsConstantWhileEnabled : Prop :=
  ∀ (i : Instr) (s t : State), exec i s = .next t →
    t.params = s.params ∧
    (s.en = true → t.frameCfg = s.frameCfg ∧ t.pattern0 = s.pattern0 ∧ t.pattern1 = s.pattern1 ∧
      t.totalLen = s.totalLen ∧ t.maxLen = s.maxLen ∧ t.lenCfg = s.lenCfg)

/-! ## Commands (44_commands.md) -/

/-- R201: ACCEPT releases the ready frame and continues after it; with no ready frame it is ignored. -/
def Obligations.AcceptReleasesTheFrame : Prop :=
  (∀ data : Word, data.extractLsb' 0 4 = 0x1#4 → decode (hostDescriptor true 0x008#12 data) = .cmdAccept) ∧
  ∀ s : State,
    (s.ready = true →
      exec .cmdAccept s = .next { s with buf := s.buf.drop s.scan, scan := 0, ready := false }) ∧
    (s.ready = false → exec .cmdAccept s = .next s)

/-- R202: REJECT resumes at the frame's second byte and records cause REJECT; while faulted it only drops the
frame; with no ready frame it is ignored. -/
def Obligations.RejectResumesAtTheSecondByte : Prop :=
  (∀ data : Word, data.extractLsb' 0 4 = 0x2#4 → decode (hostDescriptor true 0x008#12 data) = .cmdReject) ∧
  ∀ s : State,
    (s.ready = true → s.fault = false →
      exec .cmdReject s = .next { s with
        buf := s.buf.drop 1, scan := 0, ready := false, invalid := true, lastCause := .reject }) ∧
    (s.ready = true → s.fault = true →
      exec .cmdReject s = .next { s with buf := [], scan := 0, ready := false }) ∧
    (s.ready = false → exec .cmdReject s = .next s)

/-- R203 and R251: a soft reset puts every runtime value at its reset value and keeps the configuration and
`IRQ_EN`. -/
def Obligations.SoftResetKeepsTheConfiguration : Prop :=
  (∀ data : Word, data.extractLsb' 0 4 = 0xF#4 →
    decode (hostDescriptor true 0x008#12 data) = .cmdSoftReset) ∧
  ∀ s : State, exec .cmdSoftReset s = .next { s with
    en := false, fault := false, ready := false, buf := [], scan := 0,
    invalid := false, resync := false, cfgErr := false, lastCause := .none }

/-! ## Stream input (40_stream_input.md) -/

/-- R101 and R100: while `rx_ready` = 1 a byte is appended to BUF and nothing else changes; `rx_ready` is
then 0 and the engine is enabled. While `rx_ready` = 0 there is no step. -/
def Obligations.ReceivedByteIsAppended : Prop :=
  ∀ (s : State) (b : Byte),
    (∀ d : Descriptor, d.toNat / 2 ^ 44 = 4 → d.toNat % 256 = b.toNat → decode d = .rxByte b) ∧
    (s.en = true → s.fault = false → s.ready = false → s.scan = s.buf.length →
      exec (.rxByte b) s = .next { s with buf := s.buf ++ [b] } ∧
      State.rxReady { s with buf := s.buf ++ [b] } = false ∧
      State.engineEnabled { s with buf := s.buf ++ [b] } = true ∧
      (s.Inv → s.buf.length < s.params.maxFrame)) ∧
    (¬(s.en = true ∧ s.fault = false ∧ s.ready = false ∧ s.scan = s.buf.length) →
      exec (.rxByte b) s = .fault .rxByteNotEnabled)

/-- R103: a timeout while FSYNC waits for a byte discards the whole candidate and records TIMEOUT; otherwise
it is ignored. -/
def Obligations.TimeoutDiscardsTheCandidate : Prop :=
  (∀ d : Descriptor, d.toNat / 2 ^ 44 = 5 → decode d = .rxTimeout) ∧
  ∀ s : State,
    (s.en = true → s.fault = false → s.ready = false → s.scan = s.buf.length →
      exec .rxTimeout s = .next { s with buf := [], scan := 0, resync := true, lastCause := .timeout }) ∧
    (¬(s.en = true ∧ s.fault = false ∧ s.ready = false ∧ s.scan = s.buf.length) →
      exec .rxTimeout s = .next s)

/-- R104: an I/O fault while enabled and not faulted sets FAULT and cause IOFAULT, keeps a ready frame and
drops every other byte; otherwise it is ignored. While FAULT = 1 no byte and no engine step is enabled and a
timeout is ignored. Nothing is said of the model's history flag (log 6; FaultHistoryIsKept). -/
def Obligations.IoFaultKeepsOnlyTheReadyFrame : Prop :=
  (∀ d : Descriptor, d.toNat / 2 ^ 44 = 6 → decode d = .rxFault) ∧
  ∀ s : State,
    (s.en = true → s.fault = false → s.ready = true →
      ∃ t, exec .rxFault s = .next t ∧ t = { s with
        faultSeen := t.faultSeen, fault := true, lastCause := .ioFault, buf := s.buf.take s.scan }) ∧
    (s.en = true → s.fault = false → s.ready = false →
      ∃ t, exec .rxFault s = .next t ∧ t = { s with
        faultSeen := t.faultSeen, fault := true, lastCause := .ioFault, buf := [], scan := 0 }) ∧
    (¬(s.en = true ∧ s.fault = false) → exec .rxFault s = .next s) ∧
    (s.fault = true → exec .engineStep s = .fault .engineStepNotEnabled ∧ exec .rxTimeout s = .next s ∧
      ∀ b, exec (.rxByte b) s = .fault .rxByteNotEnabled)

/-! ## The engine (41_frame_engine.md) -/

/-- R121: in the pattern phase an equal byte is kept; any other byte slides by one and sets no status. -/
def Obligations.PatternPhaseMatchesOrSlides : Prop :=
  ∀ (s : State) (b : Byte), s.engineEnabled = true → s.frameCfgLegal = true →
    s.buf[s.scan]? = some b → s.scan + 1 ≤ s.frameCfg.patLen.toNat →
    (s.patternByte s.scan = some b → exec .engineStep s = .next { s with scan := s.scan + 1 } ∧
      (s.scan + 1 = s.frameCfg.patLen.toNat →
        State.engineState { s with scan := s.scan + 1 } = .collect)) ∧
    (s.patternByte s.scan ≠ some b →
      exec .engineStep s = .next { s with buf := s.buf.drop 1, scan := 0 })

/-- R28: pattern byte `k` is bits 8k+7:8k of PATTERN0 for k = 0..3, and bits 8(k−4)+7:8(k−4) of PATTERN1 for
k = 4..7. -/
def Obligations.PatternBytesAreTheRegisterBytes : Prop :=
  ∀ (s : State) (k : Nat),
    (k < 4 → ∃ b, s.patternByte k = some b ∧ b.toNat = s.pattern0.toNat / 2 ^ (8 * k) % 256) ∧
    (4 ≤ k → k < 8 →
      ∃ b, s.patternByte k = some b ∧ b.toNat = s.pattern1.toNat / 2 ^ (8 * (k - 4)) % 256)

/-- R122, R124 and R125 in BIN_FIXED: a candidate below TOTAL_LEN grows by the byte; at TOTAL_LEN a valid one
becomes the ready frame, an invalid one is rejected and scanning resumes at the very next byte. -/
def Obligations.FixedLengthCollection : Prop :=
  ∀ s : State, s.engineEnabled = true → s.frameCfgLegal = true → s.frameCfg.mode = 0#2 →
    s.frameCfg.patLen.toNat < s.scan + 1 →
    (s.scan + 1 ≠ s.totalLen.toNat → exec .engineStep s = .next { s with scan := s.scan + 1 }) ∧
    (s.scan + 1 = s.totalLen.toNat →
      (validate .add16 (s.buf.take (s.scan + 1)) = .valid →
        exec .engineStep s = .next { s with scan := s.scan + 1, ready := true }) ∧
      (validate .add16 (s.buf.take (s.scan + 1)) ≠ .valid →
        exec .engineStep s = .next { s with
          buf := s.buf.drop 1, scan := 0, invalid := true, lastCause := .checksum }))

/-- R123, R124 and R125 in BIN_LENFIELD: the length field's big-endian value plus LEN_BIAS is the total
length, checked as soon as the field has been examined. -/
def Obligations.LengthFieldCollection : Prop :=
  ∀ (s : State) (total : Nat), s.engineEnabled = true → s.frameCfgLegal = true → s.frameCfg.mode = 1#2 →
    s.frameCfg.patLen.toNat < s.scan + 1 →
    (s.scan + 1 < s.lenCfg.lenOff.toNat + 1 + s.lenCfg.lenW.toNat →
      exec .engineStep s = .next { s with scan := s.scan + 1 }) ∧
    (s.lenCfg.lenOff.toNat + 1 + s.lenCfg.lenW.toNat ≤ s.scan + 1 →
      (∀ x y, s.buf[s.lenCfg.lenOff.toNat]? = some x →
        (s.lenCfg.lenW = 0#1 → total = x.toNat + s.lenCfg.lenBias.toNat) →
        (s.lenCfg.lenW = 1#1 → s.buf[s.lenCfg.lenOff.toNat + 1]? = some y ∧
          total = x.toNat * 256 + y.toNat + s.lenCfg.lenBias.toNat) →
        (total < s.lenCfg.lenOff.toNat + 1 + s.lenCfg.lenW.toNat + 2 ∨ s.maxLen.toNat < total →
          exec .engineStep s = .next { s with
            buf := s.buf.drop 1, scan := 0, invalid := true, lastCause := .length }) ∧
        (s.lenCfg.lenOff.toNat + 1 + s.lenCfg.lenW.toNat + 2 ≤ total → total ≤ s.maxLen.toNat →
          (s.scan + 1 ≠ total → exec .engineStep s = .next { s with scan := s.scan + 1 }) ∧
          (s.scan + 1 = total →
            (validate .add16 (s.buf.take (s.scan + 1)) = .valid →
              exec .engineStep s = .next { s with scan := s.scan + 1, ready := true }) ∧
            (validate .add16 (s.buf.take (s.scan + 1)) ≠ .valid →
              exec .engineStep s = .next { s with
                buf := s.buf.drop 1, scan := 0, invalid := true, lastCause := .checksum })))))

/-- R126, R124 and R125 in TEXT: the first LF after the pattern ends the candidate; one that reaches MAX_LEN
without an LF is rejected with OVERFLOW; any other byte is kept. -/
def Obligations.TextLineCollection : Prop :=
  ∀ (s : State) (b : Byte), s.engineEnabled = true → s.frameCfgLegal = true → s.frameCfg.mode = 2#2 →
    s.frameCfg.patLen.toNat < s.scan + 1 → s.buf[s.scan]? = some b →
    (b ≠ 0x0A#8 → s.scan + 1 < s.maxLen.toNat → exec .engineStep s = .next { s with scan := s.scan + 1 }) ∧
    (b ≠ 0x0A#8 → s.maxLen.toNat ≤ s.scan + 1 →
      exec .engineStep s = .next { s with
        buf := s.buf.drop 1, scan := 0, invalid := true, lastCause := .overflow }) ∧
    (b = 0x0A#8 → validate .xor8 (s.buf.take (s.scan + 1)) = .valid →
      exec .engineStep s = .next { s with scan := s.scan + 1, ready := true }) ∧
    (b = 0x0A#8 → ∀ cause, validate .xor8 (s.buf.take (s.scan + 1)) = .invalid cause →
      exec .engineStep s = .next { s with
        buf := s.buf.drop 1, scan := 0, invalid := true, lastCause := cause })

/-- R120's enabling condition: an engine step that is not enabled is no step, and the engine and the byte
handshake are never enabled together. The stop on a FRAME_CFG that R27 does not call legal is the model's
(I18; log 10). -/
def Obligations.EngineStepNeedsAPendingByte : Prop :=
  ∀ s : State,
    (s.engineEnabled = true ↔
      s.en = true ∧ s.fault = false ∧ s.ready = false ∧ s.scan < s.buf.length) ∧
    (s.engineEnabled = false → exec .engineStep s = .fault .engineStepNotEnabled) ∧
    (s.engineEnabled = true → s.frameCfgLegal = false → exec .engineStep s = .fault .frameCfgReserved) ∧
    ¬(s.engineEnabled = true ∧ s.rxReady = true)

/-! ## Checksums (42_checksum.md) -/

/-- R150 and R151: the 16-bit sum of every byte before the two trailing ones must be their big-endian
value. -/
def Obligations.AdditiveVerdict : Prop :=
  ∀ (summed : List Byte) (hi lo : Byte),
    validate .add16 (summed ++ [hi, lo]) =
      if (summed.map BitVec.toNat).sum % 65536 = hi.toNat * 256 + lo.toNat then .valid
      else .invalid .checksum

/-- R152 to R156: a line ended by LF is valid exactly when it is a start marker, a body with no `*`, a `*`,
two upper-case hex digits, CR and LF, and the digits write the XOR of the body; a line of another shape is
FORMAT, and CHECKSUM is what remains. -/
def Obligations.TextVerdict : Prop :=
  ∀ l : List Byte, l.getLast? = some 0x0A#8 →
    (validate .xor8 l = .valid ↔ ∃ body h1 h2, textLine l body h1 h2 ∧
      (body.foldl (· ^^^ ·) 0#8).toNat = 16 * h1 + h2) ∧
    (validate .xor8 l = .invalid .format ↔ ¬∃ body h1 h2, textLine l body h1 h2) ∧
    (validate .xor8 l = .invalid .checksum ↔ ∃ body h1 h2, textLine l body h1 h2 ∧
      (body.foldl (· ^^^ ·) 0#8).toNat ≠ 16 * h1 + h2)

/-- R158: a candidate that differs from a valid frame in exactly one byte is never valid, provided the
length is the same and, in TEXT, the LF is not the changed byte. Both are candidates: both begin with the
configured pattern. -/
def Obligations.OneWrongByteIsNeverValid : Prop :=
  ∀ (s : State) (l l' : List Byte) (i : Nat), s.legal = true →
    s.beginsPattern l → s.beginsPattern l' → l'.length = l.length → 2 ≤ l.length → i < l.length →
    (∀ k, k ≠ i → l'[k]? = l[k]?) → l'[i]? ≠ l[i]? → (s.mode = .text → i + 1 < l.length) →
    validate s.algorithm l = .valid → validate s.algorithm l' ≠ .valid

/-! ## Whole-machine rules -/

/-- R49: `irq` is 1 exactly when some status bit 0 to 4 and its enable are both 1, and a write of
`IRQ_EN` = 0 lowers it in the same step (R226). -/
def Obligations.InterruptLevel : Prop :=
  ∀ s : State,
    (s.irq = true ↔
      (s.ready = true ∧ s.irqEn.getLsbD 0 = true) ∨ (s.fault = true ∧ s.irqEn.getLsbD 1 = true) ∨
      (s.invalid = true ∧ s.irqEn.getLsbD 2 = true) ∨ (s.resync = true ∧ s.irqEn.getLsbD 3 = true) ∨
      (s.cfgErr = true ∧ s.irqEn.getLsbD 4 = true)) ∧
    ∀ t, exec (.wrIrqEn 0#32) s = .next t → t.irq = false

/-- R226's last column, over every operation: what clears each interrupt source. -/
def Obligations.InterruptSourcesClearOnlyAsListed : Prop :=
  ∀ (i : Instr) (s t : State), exec i s = .next t →
    (s.ready = true → t.ready = false →
      i = .cmdAccept ∨ i = .cmdReject ∨ i = .cmdSoftReset ∨
        ∃ data, i = .wrCtrl data ∧ data.getLsbD 0 = false ∧ s.en = true) ∧
    (s.fault = true → t.fault = false → i = .cmdSoftReset) ∧
    (s.invalid = true → t.invalid = false →
      i = .cmdSoftReset ∨ ∃ data, i = .wrStatus data ∧ data.getLsbD 2 = true) ∧
    (s.resync = true → t.resync = false →
      i = .cmdSoftReset ∨ ∃ data, i = .wrStatus data ∧ data.getLsbD 3 = true) ∧
    (s.cfgErr = true → t.cfgErr = false →
      i = .cmdSoftReset ∨ ∃ data, i = .wrStatus data ∧ data.getLsbD 4 = true)

/-- R220, over every operation: an operation that changes LAST_CAUSE is one the table names, records a code
the table gives it, and sets that row's bit. -/
def Obligations.CausesAreRecordedOnlyAsListed : Prop :=
  ∀ (i : Instr) (s t : State), exec i s = .next t → t.lastCause ≠ s.lastCause →
    (i = .engineStep ∧ t.invalid = true ∧ (t.lastCause = .checksum ∨ t.lastCause = .format ∨
        t.lastCause = .length ∨ t.lastCause = .overflow)) ∨
      (i = .cmdReject ∧ t.invalid = true ∧ t.lastCause = .reject) ∨
      (i = .rxTimeout ∧ t.resync = true ∧ t.lastCause = .timeout) ∨
      (i = .rxFault ∧ t.fault = true ∧ t.lastCause = .ioFault) ∨
      (i = .cmdSoftReset ∧ t.lastCause = .none)

/-- R33, R37, R38 and R39, over every operation: what sets EN, INVALID, RESYNC, CFG_ERR and FAULT. -/
def Obligations.BitsRiseOnlyOnTheirEvents : Prop :=
  ∀ (i : Instr) (s t : State), exec i s = .next t →
    (s.en = false → t.en = true → s.legal = true ∧ ∃ data, i = .wrCtrl data ∧ data.getLsbD 0 = true) ∧
    (s.invalid = false → t.invalid = true →
      (i = .engineStep ∨ i = .cmdReject) ∧ t.buf = s.buf.drop 1 ∧ t.scan = 0) ∧
    (s.resync = false → t.resync = true → i = .rxTimeout ∧ s.rxReady = true) ∧
    (s.cfgErr = false → t.cfgErr = true →
      s.en = false ∧ s.legal = false ∧ ∃ data, i = .wrCtrl data ∧ data.getLsbD 0 = true) ∧
    (s.fault = false → t.fault = true → i = .rxFault ∧ s.en = true)

/-- R53, over every operation: while READY = 1 the frame BUF[0..SCAN) stays until ACCEPT, REJECT, a write of
CTRL.EN = 0 or a soft reset (a hardware reset is no operation), and no byte or engine step is enabled. -/
def Obligations.ReadyFrameIsStable : Prop :=
  ∀ (i : Instr) (s : State), s.ready = true →
    (∀ b, exec (.rxByte b) s = .fault .rxByteNotEnabled) ∧
    exec .engineStep s = .fault .engineStepNotEnabled ∧
    ∀ t, exec i s = .next t → i ≠ .cmdAccept → i ≠ .cmdReject → i ≠ .cmdSoftReset →
      (∀ data, i = .wrCtrl data → data.getLsbD 0 = true) →
      t.ready = true ∧ t.scan = s.scan ∧ t.buf.take t.scan = s.buf.take s.scan

/-- R128 and R71, over every operation: how BUF may change. Bytes arrive only at the back, one at a time; they
leave only at the front, all at once, or, by an I/O fault, as the pending bytes behind a ready frame; and they
are never reordered. -/
def Obligations.StreamMovesOnlyAsListed : Prop :=
  ∀ (i : Instr) (s t : State), exec i s = .next t →
    t.buf = s.buf ∨
      ((i = .engineStep ∨ i = .cmdReject) ∧ t.buf = s.buf.drop 1 ∧ t.scan = 0 ∧ t.ready = false) ∨
      (i = .cmdAccept ∧ t.buf = s.buf.drop s.scan ∧ t.scan = 0 ∧ t.ready = false) ∨
      (∃ b, i = .rxByte b ∧ t.buf = s.buf ++ [b] ∧ t.scan = s.scan) ∨
      (i = .rxFault ∧ t.fault = true ∧ s.ready = true ∧ t.buf = s.buf.take s.scan) ∨
      ((i = .rxTimeout ∨ i = .rxFault ∨ i = .cmdSoftReset ∨ (i = .cmdReject ∧ s.fault = true) ∨
          ∃ data, i = .wrCtrl data ∧ data.getLsbD 0 = false) ∧ t.buf = [] ∧ t.scan = 0)

/-- R12 and R222: in states that meet the invariant, an operation has a next state exactly when it is
enabled; RX_BYTE and ENGINE_STEP are the only ones that can be disabled, and only refused descriptors are
refused. -/
def Obligations.OperationsCompleteExactlyWhenEnabled : Prop :=
  ∀ (i : Instr) (s : State), s.Inv → ((∃ t, exec i s = .next t) ↔ enabledIn i s = true)

/-! ## Invariants (10_state.md section 4) -/

/-- A hardware reset leaves a state that meets the invariant, whatever the parameters and the trace. -/
def Obligations.ResetMeetsTheInvariant : Prop :=
  ∀ (p : Params) (trace : List Event), p.legal = true →
    State.Inv ((State.resetWith p).withTrace trace) ∧ State.reset = State.resetWith Params.default ∧
      Params.default.legal = true

/-- Every step from every state that meets the invariant leaves a state that meets it (R25, R44, R50, R51,
R52). -/
def Obligations.StepKeepsTheInvariant : Prop :=
  ∀ s t : State, s.Inv → step s = .next t → t.Inv

/-- R50, R51, R52 and R44, spelled out over every reachable state. -/
def Obligations.ReachableStatesKeepTheBufferRules : Prop :=
  ∀ s : State, Reachable s →
    (s.scan ≤ s.buf.length ∧ s.buf.length ≤ s.params.maxFrame) ∧
    (s.en = true → s.fault = false → s.ready = false → s.scan < s.lmax ∧ s.lmax ≤ s.params.maxFrame) ∧
    (s.rxReady = true → s.buf.length < s.params.maxFrame) ∧
    (s.en = false → s.buf = [] ∧ s.scan = 0 ∧ s.ready = false) ∧
    (s.fault = true → s.buf.length = s.scan ∧ (s.ready = false → s.buf = [])) ∧
    (s.en = true → s.fault = false → s.ready = false →
      ∀ k, k < s.scan → k < s.frameCfg.patLen.toNat → s.buf[k]? = s.patternByte k) ∧
    (s.ready = true → (∀ k, k < s.frameCfg.patLen.toNat → s.buf[k]? = s.patternByte k) ∧
      s.terminal s.buf s.scan ∧ validate s.algorithm (s.buf.take s.scan) = .valid)

/-- R26 and I10: in every reachable state a recorded I/O fault was taken, and no step but a soft or hardware
reset ends it; an I/O fault taken sets the history flag, and no step at all clears it (the flag is the model's
form of I10, log 6). -/
def Obligations.FaultHistoryIsKept : Prop :=
  ∀ s : State, Reachable s →
    (s.fault = true → s.faultSeen = true ∧ s.lastCause = .ioFault) ∧
    ∀ t, step s = .next t →
    (s.fault = false → t.fault = true → t.faultSeen = true) ∧
    (s.faultSeen = true → t.faultSeen = true) ∧
    (s.fault = true → t.fault = false →
      (∃ rest, s.trace = .hardwareReset :: rest) ∨
        ∃ d rest, s.trace = .descriptor d :: rest ∧ decode d = .cmdSoftReset)

/-- R130: the engine examines every byte it holds within len(BUF) · Lmax steps. -/
def Obligations.EngineWorkIsBounded : Prop :=
  ∀ s : State, s.Inv → s.en = true → s.fault = false → s.ready = false →
    ∃ k t, k ≤ s.buf.length * s.lmax ∧ engineRun k s = some t ∧ t.engineEnabled = false

/-- R92 and R93: a `DRAIN` comes to an end, with no engine step enabled. -/
def Obligations.DrainTerminates : Prop :=
  ∀ (s : State) (rest : List Event), s.Inv → s.trace = .drain :: rest →
    ∃ k t, k ≤ s.buf.length * s.lmax + 1 ∧ runSteps k s = .next t ∧
      t.trace = rest ∧ t.engineEnabled = false

/-- R264 and R130: in every run from a state that meets the invariant, at most len(BUF) · Lmax engine steps pass
from any instant on before another byte arrives; and under weak fairness of the Engine, every instant is followed
by one at which no engine step is enabled: every pending byte has been examined and FSYNC waits for the next one
(`rx_ready` = 1), or a frame is ready, or the block is faulted or disabled. -/
def Obligations.FairRunsMakeProgress : Prop :=
  ∀ (states : Nat → State) (events : Nat → Option Event), IsRun states events → (states 0).Inv →
    (∀ k j, k ≤ j → (∀ m, k ≤ m → m < j → byteArrives (events m) = false) →
      engineSteps states events k j ≤ (states k).buf.length * (states k).lmax) ∧
    (WeaklyFair states events → ∀ k, ∃ j, k ≤ j ∧ (states j).engineEnabled = false ∧
      ((states j).rxReady = true ∨ (states j).ready = true ∨ (states j).fault = true ∨
        (states j).en = false))

/-- R127: the engine hands over the earliest frame among the bytes it holds. Run until it is no longer
enabled, it has dropped exactly the first `j` bytes, none of the first `j` positions starts a valid frame or
an undecided candidate, and position `j` starts the frame now ready, or a candidate that needs more bytes. -/
def Obligations.EngineFindsTheEarliestFrame : Prop :=
  ∀ s : State, s.Inv → s.en = true → s.fault = false → s.ready = false →
    ∃ k t j, engineRun k s = some t ∧ t.engineEnabled = false ∧ j ≤ s.buf.length ∧
      t.buf = s.buf.drop j ∧
      (∀ i < j, ¬s.openCandidate (s.buf.drop i) ∧ ∀ n, ¬s.framesAt (s.buf.drop i) n) ∧
      ((t.ready = true ∧ s.framesAt t.buf t.scan) ∨
        (t.ready = false ∧ t.scan = t.buf.length ∧ s.openCandidate t.buf))

/-- R265: a state that meets the invariant with no engine step enabled waits for input, waits for the host,
is faulted, or is idle. -/
def Obligations.QuiescentStatesAreOfFourKinds : Prop :=
  ∀ s : State, s.Inv → s.engineEnabled = false →
    s.rxReady = true ∨ s.ready = true ∨ s.fault = true ∨ s.en = false

/-! ## The written form (30_encoding.md R91 to R93) -/

/-- R91's lines stand for descriptors that decode to their operations (an RD or WR at an aligned offset, to the
register map's), R92's pseudo-operations for those their expansions name, and R93's eager schedule puts a `DRAIN`
after every listed operation. That a `DRAIN` is an event of its own, which repeats `STEP` while `ENGINE_STEP` is
enabled, is the model's form of R92 (log 17). -/
def Obligations.WrittenLinesStandForTheirOperations : Prop :=
  (∀ (line : AsmLine) (i : Instr),
      (line, i) ∈ [(AsmLine.enable, Instr.wrCtrl 1#32), (.disable, .wrCtrl 0#32), (.accept, .cmdAccept),
        (.reject, .cmdReject), (.srst, .cmdSoftReset), (.tmo, .rxTimeout), (.flt, .rxFault),
        (.stp, .engineStep)] → ∃ d, line.events = [.descriptor d] ∧ decode d = i) ∧
    (∀ (addr : Offset) (recorded : Option Word) (imm : Word), addr.toNat % 4 = 0 →
      (∃ d, (AsmLine.rd addr recorded).events = [.descriptor d] ∧ decode d = decodeRead addr) ∧
      ∃ d, (AsmLine.wr addr imm).events = [.descriptor d] ∧ decode d = decodeWrite addr imm) ∧
    (∀ (k : BitVec 8) (imm : Word), (RegName.win k).offset.toNat = 0x400 + 4 * k.toNat ∧
      decodeRead (RegName.win k).offset = .rdFrameWin k ∧
      decodeWrite (RegName.win k).offset imm = .wrFrameWin k imm) ∧
    (∀ mask, ∃ d, (AsmLine.clr mask).events = [.descriptor d] ∧ decode d = .wrStatus mask) ∧
    (∀ b, ∃ d, (AsmLine.rx b).events = [.descriptor d] ∧ decode d = .rxByte b) ∧
    (∀ bytes, (AsmLine.rxs bytes).events = bytes.flatMap fun b => (AsmLine.rx b).events) ∧
    (∀ (s : State) (rest : List Event), s.trace = AsmLine.drain.events ++ rest →
      (s.engineEnabled = true → step s = exec .engineStep s) ∧
      (s.engineEnabled = false → step s = .next { s with trace := rest })) ∧
    (∀ lines : List AsmLine, (eagerEvents lines).length = 2 * (programEvents lines).length ∧
      ∀ k, (eagerEvents lines)[2 * k]? = (programEvents lines)[k]? ∧
        (k < (programEvents lines).length → (eagerEvents lines)[2 * k + 1]? = some .drain))
end

