-- ==== Sys2Proof/Laws/Bits.lean ====
section
/-! SUPPORT. Fields of words as arithmetic on their values: appending, one bit, a bit field. -/
namespace Sys2Proof

/-- An append's value: the left part stands above the right part. -/
theorem toNat_append_add {n m : Nat} (x : BitVec n) (y : BitVec m) :
    (x ++ y).toNat = x.toNat * 2 ^ m + y.toNat := by
  rw [BitVec.toNat_append, ← Nat.shiftLeft_add_eq_or_of_lt y.isLt, Nat.shiftLeft_eq]

/-- Bit `k` of a word, by division. -/
theorem getLsbD_eq_div {w : Nat} (v : BitVec w) (k : Nat) :
    v.getLsbD k = decide (v.toNat / 2 ^ k % 2 = 1) := by
  rw [BitVec.getLsbD, Nat.testBit_eq_decide_div_mod_eq]

/-- Bit `k` of a word is `b` when the division says so. -/
theorem getLsbD_of_div {w : Nat} {v : BitVec w} {k : Nat} {b : Bool}
    (h : v.toNat / 2 ^ k % 2 = b.toNat) : v.getLsbD k = b := by
  rw [getLsbD_eq_div, h]
  cases b <;> rfl

/-- The field of `n` bits at `a`, by division. -/
theorem extract_toNat {w : Nat} (v : BitVec w) (a n : Nat) :
    (v.extractLsb' a n).toNat = v.toNat / 2 ^ a % 2 ^ n := by
  rw [BitVec.extractLsb'_toNat, Nat.shiftRight_eq_div_pow]

/-- The field of `n` bits at `a` is `x` when the division says so. -/
theorem extract_of_div {w : Nat} {v : BitVec w} {a n : Nat} {x : BitVec n}
    (h : v.toNat / 2 ^ a % 2 ^ n = x.toNat) : v.extractLsb' a n = x :=
  BitVec.eq_of_toNat_eq (by rw [extract_toNat, h])

end Sys2Proof
end

