-- ==== Sys2Proof/Laws/State.lean ====
section
/-! SUPPORT. One lemma per field of State per named update: what the update leaves in the field. -/
namespace Sys2Proof.Machine

@[simp] theorem State.withRead_params (s : State) (v : Word) : (s.withRead v).params = s.params := rfl
@[simp] theorem State.withRead_frameCfg (s : State) (v : Word) :
    (s.withRead v).frameCfg = s.frameCfg := rfl
@[simp] theorem State.withRead_pattern0 (s : State) (v : Word) :
    (s.withRead v).pattern0 = s.pattern0 := rfl
@[simp] theorem State.withRead_pattern1 (s : State) (v : Word) :
    (s.withRead v).pattern1 = s.pattern1 := rfl
@[simp] theorem State.withRead_totalLen (s : State) (v : Word) :
    (s.withRead v).totalLen = s.totalLen := rfl
@[simp] theorem State.withRead_maxLen (s : State) (v : Word) : (s.withRead v).maxLen = s.maxLen := rfl
@[simp] theorem State.withRead_lenCfg (s : State) (v : Word) : (s.withRead v).lenCfg = s.lenCfg := rfl
@[simp] theorem State.withRead_irqEn (s : State) (v : Word) : (s.withRead v).irqEn = s.irqEn := rfl
@[simp] theorem State.withRead_en (s : State) (v : Word) : (s.withRead v).en = s.en := rfl
@[simp] theorem State.withRead_buf (s : State) (v : Word) : (s.withRead v).buf = s.buf := rfl
@[simp] theorem State.withRead_scan (s : State) (v : Word) : (s.withRead v).scan = s.scan := rfl
@[simp] theorem State.withRead_ready (s : State) (v : Word) : (s.withRead v).ready = s.ready := rfl
@[simp] theorem State.withRead_fault (s : State) (v : Word) : (s.withRead v).fault = s.fault := rfl
@[simp] theorem State.withRead_invalid (s : State) (v : Word) :
    (s.withRead v).invalid = s.invalid := rfl
@[simp] theorem State.withRead_resync (s : State) (v : Word) : (s.withRead v).resync = s.resync := rfl
@[simp] theorem State.withRead_cfgErr (s : State) (v : Word) : (s.withRead v).cfgErr = s.cfgErr := rfl
@[simp] theorem State.withRead_lastCause (s : State) (v : Word) :
    (s.withRead v).lastCause = s.lastCause := rfl
@[simp] theorem State.withRead_faultSeen (s : State) (v : Word) :
    (s.withRead v).faultSeen = s.faultSeen := rfl
@[simp] theorem State.withRead_reads (s : State) (v : Word) : (s.withRead v).reads = v :: s.reads := rfl
@[simp] theorem State.withRead_trace (s : State) (v : Word) : (s.withRead v).trace = s.trace := rfl

@[simp] theorem State.slide_params (s : State) : s.slide.params = s.params := rfl
@[simp] theorem State.slide_frameCfg (s : State) : s.slide.frameCfg = s.frameCfg := rfl
@[simp] theorem State.slide_pattern0 (s : State) : s.slide.pattern0 = s.pattern0 := rfl
@[simp] theorem State.slide_pattern1 (s : State) : s.slide.pattern1 = s.pattern1 := rfl
@[simp] theorem State.slide_totalLen (s : State) : s.slide.totalLen = s.totalLen := rfl
@[simp] theorem State.slide_maxLen (s : State) : s.slide.maxLen = s.maxLen := rfl
@[simp] theorem State.slide_lenCfg (s : State) : s.slide.lenCfg = s.lenCfg := rfl
@[simp] theorem State.slide_irqEn (s : State) : s.slide.irqEn = s.irqEn := rfl
@[simp] theorem State.slide_en (s : State) : s.slide.en = s.en := rfl
@[simp] theorem State.slide_buf (s : State) : s.slide.buf = s.buf.drop 1 := rfl
@[simp] theorem State.slide_scan (s : State) : s.slide.scan = 0 := rfl
@[simp] theorem State.slide_ready (s : State) : s.slide.ready = s.ready := rfl
@[simp] theorem State.slide_fault (s : State) : s.slide.fault = s.fault := rfl
@[simp] theorem State.slide_invalid (s : State) : s.slide.invalid = s.invalid := rfl
@[simp] theorem State.slide_resync (s : State) : s.slide.resync = s.resync := rfl
@[simp] theorem State.slide_cfgErr (s : State) : s.slide.cfgErr = s.cfgErr := rfl
@[simp] theorem State.slide_lastCause (s : State) : s.slide.lastCause = s.lastCause := rfl
@[simp] theorem State.slide_faultSeen (s : State) : s.slide.faultSeen = s.faultSeen := rfl
@[simp] theorem State.slide_reads (s : State) : s.slide.reads = s.reads := rfl
@[simp] theorem State.slide_trace (s : State) : s.slide.trace = s.trace := rfl

@[simp] theorem State.dropAll_params (s : State) : s.dropAll.params = s.params := rfl
@[simp] theorem State.dropAll_frameCfg (s : State) : s.dropAll.frameCfg = s.frameCfg := rfl
@[simp] theorem State.dropAll_pattern0 (s : State) : s.dropAll.pattern0 = s.pattern0 := rfl
@[simp] theorem State.dropAll_pattern1 (s : State) : s.dropAll.pattern1 = s.pattern1 := rfl
@[simp] theorem State.dropAll_totalLen (s : State) : s.dropAll.totalLen = s.totalLen := rfl
@[simp] theorem State.dropAll_maxLen (s : State) : s.dropAll.maxLen = s.maxLen := rfl
@[simp] theorem State.dropAll_lenCfg (s : State) : s.dropAll.lenCfg = s.lenCfg := rfl
@[simp] theorem State.dropAll_irqEn (s : State) : s.dropAll.irqEn = s.irqEn := rfl
@[simp] theorem State.dropAll_en (s : State) : s.dropAll.en = s.en := rfl
@[simp] theorem State.dropAll_buf (s : State) : s.dropAll.buf = [] := rfl
@[simp] theorem State.dropAll_scan (s : State) : s.dropAll.scan = 0 := rfl
@[simp] theorem State.dropAll_ready (s : State) : s.dropAll.ready = s.ready := rfl
@[simp] theorem State.dropAll_fault (s : State) : s.dropAll.fault = s.fault := rfl
@[simp] theorem State.dropAll_invalid (s : State) : s.dropAll.invalid = s.invalid := rfl
@[simp] theorem State.dropAll_resync (s : State) : s.dropAll.resync = s.resync := rfl
@[simp] theorem State.dropAll_cfgErr (s : State) : s.dropAll.cfgErr = s.cfgErr := rfl
@[simp] theorem State.dropAll_lastCause (s : State) : s.dropAll.lastCause = s.lastCause := rfl
@[simp] theorem State.dropAll_faultSeen (s : State) : s.dropAll.faultSeen = s.faultSeen := rfl
@[simp] theorem State.dropAll_reads (s : State) : s.dropAll.reads = s.reads := rfl
@[simp] theorem State.dropAll_trace (s : State) : s.dropAll.trace = s.trace := rfl

@[simp] theorem State.keepFrame_params (s : State) : s.keepFrame.params = s.params := rfl
@[simp] theorem State.keepFrame_frameCfg (s : State) : s.keepFrame.frameCfg = s.frameCfg := rfl
@[simp] theorem State.keepFrame_pattern0 (s : State) : s.keepFrame.pattern0 = s.pattern0 := rfl
@[simp] theorem State.keepFrame_pattern1 (s : State) : s.keepFrame.pattern1 = s.pattern1 := rfl
@[simp] theorem State.keepFrame_totalLen (s : State) : s.keepFrame.totalLen = s.totalLen := rfl
@[simp] theorem State.keepFrame_maxLen (s : State) : s.keepFrame.maxLen = s.maxLen := rfl
@[simp] theorem State.keepFrame_lenCfg (s : State) : s.keepFrame.lenCfg = s.lenCfg := rfl
@[simp] theorem State.keepFrame_irqEn (s : State) : s.keepFrame.irqEn = s.irqEn := rfl
@[simp] theorem State.keepFrame_en (s : State) : s.keepFrame.en = s.en := rfl
@[simp] theorem State.keepFrame_buf (s : State) : s.keepFrame.buf = s.buf.take s.scan := rfl
@[simp] theorem State.keepFrame_scan (s : State) : s.keepFrame.scan = s.scan := rfl
@[simp] theorem State.keepFrame_ready (s : State) : s.keepFrame.ready = s.ready := rfl
@[simp] theorem State.keepFrame_fault (s : State) : s.keepFrame.fault = s.fault := rfl
@[simp] theorem State.keepFrame_invalid (s : State) : s.keepFrame.invalid = s.invalid := rfl
@[simp] theorem State.keepFrame_resync (s : State) : s.keepFrame.resync = s.resync := rfl
@[simp] theorem State.keepFrame_cfgErr (s : State) : s.keepFrame.cfgErr = s.cfgErr := rfl
@[simp] theorem State.keepFrame_lastCause (s : State) : s.keepFrame.lastCause = s.lastCause := rfl
@[simp] theorem State.keepFrame_faultSeen (s : State) : s.keepFrame.faultSeen = s.faultSeen := rfl
@[simp] theorem State.keepFrame_reads (s : State) : s.keepFrame.reads = s.reads := rfl
@[simp] theorem State.keepFrame_trace (s : State) : s.keepFrame.trace = s.trace := rfl

@[simp] theorem State.releaseFrame_params (s : State) : s.releaseFrame.params = s.params := rfl
@[simp] theorem State.releaseFrame_frameCfg (s : State) : s.releaseFrame.frameCfg = s.frameCfg := rfl
@[simp] theorem State.releaseFrame_pattern0 (s : State) : s.releaseFrame.pattern0 = s.pattern0 := rfl
@[simp] theorem State.releaseFrame_pattern1 (s : State) : s.releaseFrame.pattern1 = s.pattern1 := rfl
@[simp] theorem State.releaseFrame_totalLen (s : State) : s.releaseFrame.totalLen = s.totalLen := rfl
@[simp] theorem State.releaseFrame_maxLen (s : State) : s.releaseFrame.maxLen = s.maxLen := rfl
@[simp] theorem State.releaseFrame_lenCfg (s : State) : s.releaseFrame.lenCfg = s.lenCfg := rfl
@[simp] theorem State.releaseFrame_irqEn (s : State) : s.releaseFrame.irqEn = s.irqEn := rfl
@[simp] theorem State.releaseFrame_en (s : State) : s.releaseFrame.en = s.en := rfl
@[simp] theorem State.releaseFrame_buf (s : State) : s.releaseFrame.buf = s.buf.drop s.scan := rfl
@[simp] theorem State.releaseFrame_scan (s : State) : s.releaseFrame.scan = 0 := rfl
@[simp] theorem State.releaseFrame_ready (s : State) : s.releaseFrame.ready = false := rfl
@[simp] theorem State.releaseFrame_fault (s : State) : s.releaseFrame.fault = s.fault := rfl
@[simp] theorem State.releaseFrame_invalid (s : State) : s.releaseFrame.invalid = s.invalid := rfl
@[simp] theorem State.releaseFrame_resync (s : State) : s.releaseFrame.resync = s.resync := rfl
@[simp] theorem State.releaseFrame_cfgErr (s : State) : s.releaseFrame.cfgErr = s.cfgErr := rfl
@[simp] theorem State.releaseFrame_lastCause (s : State) : s.releaseFrame.lastCause = s.lastCause := rfl
@[simp] theorem State.releaseFrame_faultSeen (s : State) : s.releaseFrame.faultSeen = s.faultSeen := rfl
@[simp] theorem State.releaseFrame_reads (s : State) : s.releaseFrame.reads = s.reads := rfl
@[simp] theorem State.releaseFrame_trace (s : State) : s.releaseFrame.trace = s.trace := rfl

@[simp] theorem State.abandon_params (s : State) : s.abandon.params = s.params := rfl
@[simp] theorem State.abandon_frameCfg (s : State) : s.abandon.frameCfg = s.frameCfg := rfl
@[simp] theorem State.abandon_pattern0 (s : State) : s.abandon.pattern0 = s.pattern0 := rfl
@[simp] theorem State.abandon_pattern1 (s : State) : s.abandon.pattern1 = s.pattern1 := rfl
@[simp] theorem State.abandon_totalLen (s : State) : s.abandon.totalLen = s.totalLen := rfl
@[simp] theorem State.abandon_maxLen (s : State) : s.abandon.maxLen = s.maxLen := rfl
@[simp] theorem State.abandon_lenCfg (s : State) : s.abandon.lenCfg = s.lenCfg := rfl
@[simp] theorem State.abandon_irqEn (s : State) : s.abandon.irqEn = s.irqEn := rfl
@[simp] theorem State.abandon_en (s : State) : s.abandon.en = s.en := rfl
@[simp] theorem State.abandon_buf (s : State) : s.abandon.buf = [] := rfl
@[simp] theorem State.abandon_scan (s : State) : s.abandon.scan = 0 := rfl
@[simp] theorem State.abandon_ready (s : State) : s.abandon.ready = false := rfl
@[simp] theorem State.abandon_fault (s : State) : s.abandon.fault = s.fault := rfl
@[simp] theorem State.abandon_invalid (s : State) : s.abandon.invalid = s.invalid := rfl
@[simp] theorem State.abandon_resync (s : State) : s.abandon.resync = s.resync := rfl
@[simp] theorem State.abandon_cfgErr (s : State) : s.abandon.cfgErr = s.cfgErr := rfl
@[simp] theorem State.abandon_lastCause (s : State) : s.abandon.lastCause = s.lastCause := rfl
@[simp] theorem State.abandon_faultSeen (s : State) : s.abandon.faultSeen = s.faultSeen := rfl
@[simp] theorem State.abandon_reads (s : State) : s.abandon.reads = s.reads := rfl
@[simp] theorem State.abandon_trace (s : State) : s.abandon.trace = s.trace := rfl

@[simp] theorem State.keepByte_params (s : State) (n : Nat) : (s.keepByte n).params = s.params := rfl
@[simp] theorem State.keepByte_frameCfg (s : State) (n : Nat) :
    (s.keepByte n).frameCfg = s.frameCfg := rfl
@[simp] theorem State.keepByte_pattern0 (s : State) (n : Nat) :
    (s.keepByte n).pattern0 = s.pattern0 := rfl
@[simp] theorem State.keepByte_pattern1 (s : State) (n : Nat) :
    (s.keepByte n).pattern1 = s.pattern1 := rfl
@[simp] theorem State.keepByte_totalLen (s : State) (n : Nat) :
    (s.keepByte n).totalLen = s.totalLen := rfl
@[simp] theorem State.keepByte_maxLen (s : State) (n : Nat) : (s.keepByte n).maxLen = s.maxLen := rfl
@[simp] theorem State.keepByte_lenCfg (s : State) (n : Nat) : (s.keepByte n).lenCfg = s.lenCfg := rfl
@[simp] theorem State.keepByte_irqEn (s : State) (n : Nat) : (s.keepByte n).irqEn = s.irqEn := rfl
@[simp] theorem State.keepByte_en (s : State) (n : Nat) : (s.keepByte n).en = s.en := rfl
@[simp] theorem State.keepByte_buf (s : State) (n : Nat) : (s.keepByte n).buf = s.buf := rfl
@[simp] theorem State.keepByte_scan (s : State) (n : Nat) : (s.keepByte n).scan = n := rfl
@[simp] theorem State.keepByte_ready (s : State) (n : Nat) : (s.keepByte n).ready = s.ready := rfl
@[simp] theorem State.keepByte_fault (s : State) (n : Nat) : (s.keepByte n).fault = s.fault := rfl
@[simp] theorem State.keepByte_invalid (s : State) (n : Nat) : (s.keepByte n).invalid = s.invalid := rfl
@[simp] theorem State.keepByte_resync (s : State) (n : Nat) : (s.keepByte n).resync = s.resync := rfl
@[simp] theorem State.keepByte_cfgErr (s : State) (n : Nat) : (s.keepByte n).cfgErr = s.cfgErr := rfl
@[simp] theorem State.keepByte_lastCause (s : State) (n : Nat) :
    (s.keepByte n).lastCause = s.lastCause := rfl
@[simp] theorem State.keepByte_faultSeen (s : State) (n : Nat) :
    (s.keepByte n).faultSeen = s.faultSeen := rfl
@[simp] theorem State.keepByte_reads (s : State) (n : Nat) : (s.keepByte n).reads = s.reads := rfl
@[simp] theorem State.keepByte_trace (s : State) (n : Nat) : (s.keepByte n).trace = s.trace := rfl

@[simp] theorem State.acknowledge_params (s : State) (d : Word) :
    (s.acknowledge d).params = s.params := rfl
@[simp] theorem State.acknowledge_frameCfg (s : State) (d : Word) :
    (s.acknowledge d).frameCfg = s.frameCfg := rfl
@[simp] theorem State.acknowledge_pattern0 (s : State) (d : Word) :
    (s.acknowledge d).pattern0 = s.pattern0 := rfl
@[simp] theorem State.acknowledge_pattern1 (s : State) (d : Word) :
    (s.acknowledge d).pattern1 = s.pattern1 := rfl
@[simp] theorem State.acknowledge_totalLen (s : State) (d : Word) :
    (s.acknowledge d).totalLen = s.totalLen := rfl
@[simp] theorem State.acknowledge_maxLen (s : State) (d : Word) :
    (s.acknowledge d).maxLen = s.maxLen := rfl
@[simp] theorem State.acknowledge_lenCfg (s : State) (d : Word) :
    (s.acknowledge d).lenCfg = s.lenCfg := rfl
@[simp] theorem State.acknowledge_irqEn (s : State) (d : Word) :
    (s.acknowledge d).irqEn = s.irqEn := rfl
@[simp] theorem State.acknowledge_en (s : State) (d : Word) : (s.acknowledge d).en = s.en := rfl
@[simp] theorem State.acknowledge_buf (s : State) (d : Word) : (s.acknowledge d).buf = s.buf := rfl
@[simp] theorem State.acknowledge_scan (s : State) (d : Word) : (s.acknowledge d).scan = s.scan := rfl
@[simp] theorem State.acknowledge_ready (s : State) (d : Word) :
    (s.acknowledge d).ready = s.ready := rfl
@[simp] theorem State.acknowledge_fault (s : State) (d : Word) :
    (s.acknowledge d).fault = s.fault := rfl
@[simp] theorem State.acknowledge_invalid (s : State) (d : Word) :
    (s.acknowledge d).invalid = (s.invalid && !d.getLsbD 2) := rfl
@[simp] theorem State.acknowledge_resync (s : State) (d : Word) :
    (s.acknowledge d).resync = (s.resync && !d.getLsbD 3) := rfl
@[simp] theorem State.acknowledge_cfgErr (s : State) (d : Word) :
    (s.acknowledge d).cfgErr = (s.cfgErr && !d.getLsbD 4) := rfl
@[simp] theorem State.acknowledge_lastCause (s : State) (d : Word) :
    (s.acknowledge d).lastCause = s.lastCause := rfl
@[simp] theorem State.acknowledge_faultSeen (s : State) (d : Word) :
    (s.acknowledge d).faultSeen = s.faultSeen := rfl
@[simp] theorem State.acknowledge_reads (s : State) (d : Word) :
    (s.acknowledge d).reads = s.reads := rfl
@[simp] theorem State.acknowledge_trace (s : State) (d : Word) :
    (s.acknowledge d).trace = s.trace := rfl

@[simp] theorem State.softReset_params (s : State) : s.softReset.params = s.params := rfl
@[simp] theorem State.softReset_frameCfg (s : State) : s.softReset.frameCfg = s.frameCfg := rfl
@[simp] theorem State.softReset_pattern0 (s : State) : s.softReset.pattern0 = s.pattern0 := rfl
@[simp] theorem State.softReset_pattern1 (s : State) : s.softReset.pattern1 = s.pattern1 := rfl
@[simp] theorem State.softReset_totalLen (s : State) : s.softReset.totalLen = s.totalLen := rfl
@[simp] theorem State.softReset_maxLen (s : State) : s.softReset.maxLen = s.maxLen := rfl
@[simp] theorem State.softReset_lenCfg (s : State) : s.softReset.lenCfg = s.lenCfg := rfl
@[simp] theorem State.softReset_irqEn (s : State) : s.softReset.irqEn = s.irqEn := rfl
@[simp] theorem State.softReset_en (s : State) : s.softReset.en = false := rfl
@[simp] theorem State.softReset_buf (s : State) : s.softReset.buf = [] := rfl
@[simp] theorem State.softReset_scan (s : State) : s.softReset.scan = 0 := rfl
@[simp] theorem State.softReset_ready (s : State) : s.softReset.ready = false := rfl
@[simp] theorem State.softReset_fault (s : State) : s.softReset.fault = false := rfl
@[simp] theorem State.softReset_invalid (s : State) : s.softReset.invalid = false := rfl
@[simp] theorem State.softReset_resync (s : State) : s.softReset.resync = false := rfl
@[simp] theorem State.softReset_cfgErr (s : State) : s.softReset.cfgErr = false := rfl
@[simp] theorem State.softReset_lastCause (s : State) : s.softReset.lastCause = .none := rfl
@[simp] theorem State.softReset_faultSeen (s : State) : s.softReset.faultSeen = s.faultSeen := rfl
@[simp] theorem State.softReset_reads (s : State) : s.softReset.reads = s.reads := rfl
@[simp] theorem State.softReset_trace (s : State) : s.softReset.trace = s.trace := rfl

@[simp] theorem State.hardwareReset_params (s : State) : s.hardwareReset.params = s.params := rfl
@[simp] theorem State.hardwareReset_frameCfg (s : State) : s.hardwareReset.frameCfg = ⟨0#2, 0#4⟩ := rfl
@[simp] theorem State.hardwareReset_pattern0 (s : State) : s.hardwareReset.pattern0 = 0#32 := rfl
@[simp] theorem State.hardwareReset_pattern1 (s : State) : s.hardwareReset.pattern1 = 0#32 := rfl
@[simp] theorem State.hardwareReset_totalLen (s : State) : s.hardwareReset.totalLen = 0#16 := rfl
@[simp] theorem State.hardwareReset_maxLen (s : State) : s.hardwareReset.maxLen = 0#16 := rfl
@[simp] theorem State.hardwareReset_lenCfg (s : State) : s.hardwareReset.lenCfg = ⟨0#8, 0#1, 0#8⟩ := rfl
@[simp] theorem State.hardwareReset_irqEn (s : State) : s.hardwareReset.irqEn = 0#5 := rfl
@[simp] theorem State.hardwareReset_en (s : State) : s.hardwareReset.en = false := rfl
@[simp] theorem State.hardwareReset_buf (s : State) : s.hardwareReset.buf = [] := rfl
@[simp] theorem State.hardwareReset_scan (s : State) : s.hardwareReset.scan = 0 := rfl
@[simp] theorem State.hardwareReset_ready (s : State) : s.hardwareReset.ready = false := rfl
@[simp] theorem State.hardwareReset_fault (s : State) : s.hardwareReset.fault = false := rfl
@[simp] theorem State.hardwareReset_invalid (s : State) : s.hardwareReset.invalid = false := rfl
@[simp] theorem State.hardwareReset_resync (s : State) : s.hardwareReset.resync = false := rfl
@[simp] theorem State.hardwareReset_cfgErr (s : State) : s.hardwareReset.cfgErr = false := rfl
@[simp] theorem State.hardwareReset_lastCause (s : State) : s.hardwareReset.lastCause = .none := rfl
@[simp] theorem State.hardwareReset_faultSeen (s : State) :
    s.hardwareReset.faultSeen = s.faultSeen := rfl
@[simp] theorem State.hardwareReset_reads (s : State) : s.hardwareReset.reads = s.reads := rfl
@[simp] theorem State.hardwareReset_trace (s : State) : s.hardwareReset.trace = s.trace := rfl

@[simp] theorem State.withTrace_params (s : State) (rest : List Event) :
    (s.withTrace rest).params = s.params := rfl
@[simp] theorem State.withTrace_frameCfg (s : State) (rest : List Event) :
    (s.withTrace rest).frameCfg = s.frameCfg := rfl
@[simp] theorem State.withTrace_pattern0 (s : State) (rest : List Event) :
    (s.withTrace rest).pattern0 = s.pattern0 := rfl
@[simp] theorem State.withTrace_pattern1 (s : State) (rest : List Event) :
    (s.withTrace rest).pattern1 = s.pattern1 := rfl
@[simp] theorem State.withTrace_totalLen (s : State) (rest : List Event) :
    (s.withTrace rest).totalLen = s.totalLen := rfl
@[simp] theorem State.withTrace_maxLen (s : State) (rest : List Event) :
    (s.withTrace rest).maxLen = s.maxLen := rfl
@[simp] theorem State.withTrace_lenCfg (s : State) (rest : List Event) :
    (s.withTrace rest).lenCfg = s.lenCfg := rfl
@[simp] theorem State.withTrace_irqEn (s : State) (rest : List Event) :
    (s.withTrace rest).irqEn = s.irqEn := rfl
@[simp] theorem State.withTrace_en (s : State) (rest : List Event) : (s.withTrace rest).en = s.en := rfl
@[simp] theorem State.withTrace_buf (s : State) (rest : List Event) :
    (s.withTrace rest).buf = s.buf := rfl
@[simp] theorem State.withTrace_scan (s : State) (rest : List Event) :
    (s.withTrace rest).scan = s.scan := rfl
@[simp] theorem State.withTrace_ready (s : State) (rest : List Event) :
    (s.withTrace rest).ready = s.ready := rfl
@[simp] theorem State.withTrace_fault (s : State) (rest : List Event) :
    (s.withTrace rest).fault = s.fault := rfl
@[simp] theorem State.withTrace_invalid (s : State) (rest : List Event) :
    (s.withTrace rest).invalid = s.invalid := rfl
@[simp] theorem State.withTrace_resync (s : State) (rest : List Event) :
    (s.withTrace rest).resync = s.resync := rfl
@[simp] theorem State.withTrace_cfgErr (s : State) (rest : List Event) :
    (s.withTrace rest).cfgErr = s.cfgErr := rfl
@[simp] theorem State.withTrace_lastCause (s : State) (rest : List Event) :
    (s.withTrace rest).lastCause = s.lastCause := rfl
@[simp] theorem State.withTrace_faultSeen (s : State) (rest : List Event) :
    (s.withTrace rest).faultSeen = s.faultSeen := rfl
@[simp] theorem State.withTrace_reads (s : State) (rest : List Event) :
    (s.withTrace rest).reads = s.reads := rfl
@[simp] theorem State.withTrace_trace (s : State) (rest : List Event) :
    (s.withTrace rest).trace = rest := rfl

@[simp] theorem State.placeDescriptor_params (s : State) (d : Descriptor) :
    (s.placeDescriptor d).params = s.params := rfl
@[simp] theorem State.placeDescriptor_frameCfg (s : State) (d : Descriptor) :
    (s.placeDescriptor d).frameCfg = s.frameCfg := rfl
@[simp] theorem State.placeDescriptor_pattern0 (s : State) (d : Descriptor) :
    (s.placeDescriptor d).pattern0 = s.pattern0 := rfl
@[simp] theorem State.placeDescriptor_pattern1 (s : State) (d : Descriptor) :
    (s.placeDescriptor d).pattern1 = s.pattern1 := rfl
@[simp] theorem State.placeDescriptor_totalLen (s : State) (d : Descriptor) :
    (s.placeDescriptor d).totalLen = s.totalLen := rfl
@[simp] theorem State.placeDescriptor_maxLen (s : State) (d : Descriptor) :
    (s.placeDescriptor d).maxLen = s.maxLen := rfl
@[simp] theorem State.placeDescriptor_lenCfg (s : State) (d : Descriptor) :
    (s.placeDescriptor d).lenCfg = s.lenCfg := rfl
@[simp] theorem State.placeDescriptor_irqEn (s : State) (d : Descriptor) :
    (s.placeDescriptor d).irqEn = s.irqEn := rfl
@[simp] theorem State.placeDescriptor_en (s : State) (d : Descriptor) :
    (s.placeDescriptor d).en = s.en := rfl
@[simp] theorem State.placeDescriptor_buf (s : State) (d : Descriptor) :
    (s.placeDescriptor d).buf = s.buf := rfl
@[simp] theorem State.placeDescriptor_scan (s : State) (d : Descriptor) :
    (s.placeDescriptor d).scan = s.scan := rfl
@[simp] theorem State.placeDescriptor_ready (s : State) (d : Descriptor) :
    (s.placeDescriptor d).ready = s.ready := rfl
@[simp] theorem State.placeDescriptor_fault (s : State) (d : Descriptor) :
    (s.placeDescriptor d).fault = s.fault := rfl
@[simp] theorem State.placeDescriptor_invalid (s : State) (d : Descriptor) :
    (s.placeDescriptor d).invalid = s.invalid := rfl
@[simp] theorem State.placeDescriptor_resync (s : State) (d : Descriptor) :
    (s.placeDescriptor d).resync = s.resync := rfl
@[simp] theorem State.placeDescriptor_cfgErr (s : State) (d : Descriptor) :
    (s.placeDescriptor d).cfgErr = s.cfgErr := rfl
@[simp] theorem State.placeDescriptor_lastCause (s : State) (d : Descriptor) :
    (s.placeDescriptor d).lastCause = s.lastCause := rfl
@[simp] theorem State.placeDescriptor_faultSeen (s : State) (d : Descriptor) :
    (s.placeDescriptor d).faultSeen = s.faultSeen := rfl
@[simp] theorem State.placeDescriptor_reads (s : State) (d : Descriptor) :
    (s.placeDescriptor d).reads = s.reads := rfl
@[simp] theorem State.placeDescriptor_trace (s : State) (d : Descriptor) :
    (s.placeDescriptor d).trace = .descriptor d :: s.trace := rfl

end Sys2Proof.Machine
end

