-- ==== Sys2Proof/Laws/Ops.lean ====
section
/-! SUPPORT. What each shared operation and each conditional meaning can do, said once. Later proofs cite
these instead of unfolding the operation. -/
namespace Sys2Proof.Machine

/-! ## The configuration lock (R170) -/

theorem State.unlessEnabled_locked {s stored : State} (h : s.en = true) : s.unlessEnabled stored = s := by
  simp [State.unlessEnabled, h]

theorem State.unlessEnabled_open {s stored : State} (h : s.en = false) :
    s.unlessEnabled stored = stored := by
  simp [State.unlessEnabled, h]

/-! ## Taking a cause (R230) -/

/-- The causes that reject a candidate: the sticky bit INVALID and a slide (R124, R220). -/
def Cause.rejects (c : Cause) : Bool :=
  decide (c = .checksum ∨ c = .format ∨ c = .length ∨ c = .overflow)

theorem State.takeCause_of_rejects {s : State} {c : Cause} (h : c.rejects = true) :
    s.takeCause c = { s with buf := s.buf.drop 1, scan := 0, invalid := true, lastCause := c } := by
  cases c <;> first | rfl | simp [Cause.rejects] at h

theorem State.takeCause_reject (s : State) :
    s.takeCause .reject =
      { s with buf := s.buf.drop 1, scan := 0, ready := false, invalid := true, lastCause := .reject } := rfl

theorem State.takeCause_timeout (s : State) :
    s.takeCause .timeout =
      { s with buf := [], scan := 0, resync := true, lastCause := .timeout } := rfl

theorem State.takeCause_ioFault_ready {s : State} (h : s.ready = true) :
    s.takeCause .ioFault =
      { s with fault := true, faultSeen := true, lastCause := .ioFault, buf := s.buf.take s.scan } := by
  simp [State.takeCause, State.recordCause, State.resumeAfter, h, State.keepFrame]

theorem State.takeCause_ioFault_unready {s : State} (h : s.ready = false) :
    s.takeCause .ioFault =
      { s with fault := true, faultSeen := true, lastCause := .ioFault, buf := [], scan := 0 } := by
  simp [State.takeCause, State.recordCause, State.resumeAfter, h, State.dropAll]

/-! ## Validation (R157) -/

/-- A verdict's cause is CHECKSUM or FORMAT (R125, R157). -/
theorem validate_cause {alg : Algorithm} {l : List Byte} {c : Cause} (h : validate alg l = .invalid c) :
    c.rejects = true := by
  cases alg with
  | add16 =>
    simp only [validate, validateAdd16] at h
    split at h <;> simp_all [Cause.rejects]
  | xor8 =>
    simp only [validate, validateXor8] at h
    split at h
    · simp_all [Cause.rejects]
    · split at h <;> simp_all [Cause.rejects]

/-! ## Completion (R125) -/

/-- `Complete(c, alg)` hands the frame over or rejects the candidate, by the verdict. -/
theorem State.complete_cases (s : State) (alg : Algorithm) (n : Nat) :
    (validate alg (s.buf.take n) = .valid ∧ s.complete alg n = { s with scan := n, ready := true }) ∨
      ∃ c, validate alg (s.buf.take n) = .invalid c ∧ c.rejects = true ∧
        s.complete alg n = { s with buf := s.buf.drop 1, scan := 0, invalid := true, lastCause := c } := by
  cases h : validate alg (s.buf.take n) with
  | valid => exact .inl ⟨rfl, by simp [State.complete, h]⟩
  | invalid c =>
    have hc := validate_cause h
    exact .inr ⟨c, rfl, hc, by simp [State.complete, h, State.takeCause_of_rejects hc]⟩

/-! ## Outputs (R48, R120) -/

theorem State.rxReady_iff (s : State) :
    s.rxReady = true ↔ s.en = true ∧ s.fault = false ∧ s.ready = false ∧ s.scan = s.buf.length := by
  simp [State.rxReady, and_assoc]

theorem State.engineEnabled_iff (s : State) :
    s.engineEnabled = true ↔ s.en = true ∧ s.fault = false ∧ s.ready = false ∧ s.scan < s.buf.length := by
  simp [State.engineEnabled, and_assoc]

/-! ## The engine step (R120) -/

/-- An engine step that answers a next state examined an enabled byte `b` = BUF[SCAN] under a legal
`FRAME_CFG`, in the pattern phase or in the mode's collection. -/
theorem execEngineStep_cases {s t : State} (h : execEngineStep s = .next t) :
    s.engineEnabled = true ∧ s.frameCfgLegal = true ∧ ∃ b, s.buf[s.scan]? = some b ∧
      ((s.scan + 1 ≤ s.patLen ∧ t = s.matchPattern b (s.scan + 1)) ∨
        (s.patLen < s.scan + 1 ∧ s.mode = .binFixed ∧ t = s.collectFixed (s.scan + 1)) ∨
        (s.patLen < s.scan + 1 ∧ s.mode = .binLenfield ∧ t = s.collectLenfield (s.scan + 1)) ∨
        (s.patLen < s.scan + 1 ∧ s.mode = .text ∧ t = s.collectText b (s.scan + 1))) := by
  unfold execEngineStep at h
  split at h
  case isFalse => cases h
  case isTrue he =>
    obtain ⟨-, -, -, hlt⟩ := (State.engineEnabled_iff s).1 he
    have hb : s.buf[s.scan]? = some (s.buf.getD s.scan 0x00#8) := by
      simp [List.getD_eq_getElem?_getD, List.getElem?_eq_getElem hlt]
    unfold State.examine at h
    split at h
    · cases h
    · rename_i hl
      refine ⟨he, by simpa using hl, _, hb, ?_⟩
      split at h
      · rename_i hp
        cases h
        exact .inl ⟨hp, rfl⟩
      · rename_i hp
        have hp' : s.patLen < s.scan + 1 := by omega
        split at h <;> rename_i hm <;> cases h
        · exact .inr (.inl ⟨hp', hm, rfl⟩)
        · exact .inr (.inr (.inl ⟨hp', hm, rfl⟩))
        · exact .inr (.inr (.inr ⟨hp', hm, rfl⟩))

/-- The shape of every engine step's result: the byte is kept, the frame handed over, or the candidate
loses its first byte, with or without a rejection cause. -/
theorem execEngineStep_shape {s t : State} (h : execEngineStep s = .next t) :
    s.engineEnabled = true ∧
      (t = { s with scan := s.scan + 1 } ∨ t = { s with scan := s.scan + 1, ready := true } ∨
        t = { s with buf := s.buf.drop 1, scan := 0 } ∨
        ∃ c, c.rejects = true ∧
          t = { s with buf := s.buf.drop 1, scan := 0, invalid := true, lastCause := c }) := by
  obtain ⟨he, -, b, -, hc⟩ := execEngineStep_cases h
  refine ⟨he, ?_⟩
  obtain ⟨-, rfl⟩ | ⟨-, -, rfl⟩ | ⟨-, -, rfl⟩ | ⟨-, -, rfl⟩ := hc
  · unfold State.matchPattern
    split
    · exact .inl rfl
    · exact .inr (.inr (.inl rfl))
  · unfold State.collectFixed
    split
    · obtain ⟨-, h⟩ | ⟨c, -, hc, h⟩ := s.complete_cases .add16 (s.scan + 1)
      · exact .inr (.inl h)
      · exact .inr (.inr (.inr ⟨c, hc, h⟩))
    · exact .inl rfl
  · unfold State.collectLenfield
    split
    · exact .inl rfl
    · dsimp only
      split
      · exact .inr (.inr (.inr ⟨.length, rfl, State.takeCause_of_rejects rfl⟩))
      · split
        · obtain ⟨-, h⟩ | ⟨c, -, hc, h⟩ := s.complete_cases .add16 (s.scan + 1)
          · exact .inr (.inl h)
          · exact .inr (.inr (.inr ⟨c, hc, h⟩))
        · exact .inl rfl
  · unfold State.collectText
    split
    · obtain ⟨-, h⟩ | ⟨c, -, hc, h⟩ := s.complete_cases .xor8 (s.scan + 1)
      · exact .inr (.inl h)
      · exact .inr (.inr (.inr ⟨c, hc, h⟩))
    · split
      · exact .inr (.inr (.inr ⟨.overflow, rfl, State.takeCause_of_rejects rfl⟩))
      · exact .inl rfl

/-! ## The stream operations and CTRL -/

/-- What RX_BYTE can do (R101). -/
theorem execRxByte_cases {s t : State} {b : Byte} (h : execRxByte b s = .next t) :
    s.rxReady = true ∧ t = { s with buf := s.buf ++ [b] } := by
  unfold execRxByte at h
  split at h
  · cases h; exact ⟨‹_›, rfl⟩
  · cases h

/-- What RX_TIMEOUT can do (R103). -/
theorem execRxTimeout_cases {s t : State} (h : execRxTimeout s = .next t) :
    (s.rxReady = true ∧ t = { s with buf := [], scan := 0, resync := true, lastCause := .timeout }) ∨
      (s.rxReady = false ∧ t = s) := by
  unfold execRxTimeout at h
  split at h
  · cases h; exact .inl ⟨‹_›, State.takeCause_timeout s⟩
  · rename_i hr
    cases h
    exact .inr ⟨by simpa using hr, rfl⟩

/-- What RX_FAULT can do (R104). -/
theorem execRxFault_cases {s t : State} (h : execRxFault s = .next t) :
    (s.en = true ∧ s.fault = false ∧ s.ready = true ∧ t = { s with
        fault := true, faultSeen := true, lastCause := .ioFault, buf := s.buf.take s.scan }) ∨
      (s.en = true ∧ s.fault = false ∧ s.ready = false ∧ t = { s with
        fault := true, faultSeen := true, lastCause := .ioFault, buf := [], scan := 0 }) ∨
      ((s.en = false ∨ s.fault = true) ∧ t = s) := by
  unfold execRxFault at h
  split at h
  · rename_i hc
    simp only [Bool.and_eq_true, Bool.not_eq_true'] at hc
    cases h
    by_cases hr : s.ready = true
    · exact .inl ⟨hc.1, hc.2, hr, State.takeCause_ioFault_ready hr⟩
    · have hr' : s.ready = false := by simpa using hr
      exact .inr (.inl ⟨hc.1, hc.2, hr', State.takeCause_ioFault_unready hr'⟩)
  · rename_i hc
    cases h
    refine .inr (.inr ⟨?_, rfl⟩)
    cases he : s.en <;> cases hf : s.fault <;> simp_all

/-- What WR_CTRL can do (R171). -/
theorem execWrCtrl_cases {s t : State} {data : Word} (h : execWrCtrl data s = .next t) :
    (s.en = false ∧ data.getLsbD 0 = true ∧ s.legal = true ∧ t = { s with en := true }) ∨
      (s.en = false ∧ data.getLsbD 0 = true ∧ s.legal = false ∧ t = { s with cfgErr := true }) ∨
      (s.en = true ∧ data.getLsbD 0 = false ∧
        t = { s with en := false, buf := [], scan := 0, ready := false }) ∨
      (s.en = data.getLsbD 0 ∧ t = s) := by
  unfold execWrCtrl at h
  cases he : s.en <;> cases hd : data.getLsbD 0 <;> cases hl : s.legal <;>
    simp_all [State.abandon]

/-- What CMD_ACCEPT can do (R201). -/
theorem execCmdAccept_cases {s t : State} (h : execCmdAccept s = .next t) :
    (s.ready = true ∧ t = { s with buf := s.buf.drop s.scan, scan := 0, ready := false }) ∨
      (s.ready = false ∧ t = s) := by
  unfold execCmdAccept at h
  cases hr : s.ready <;> simp_all [State.releaseFrame]

/-- What CMD_REJECT can do (R202). -/
theorem execCmdReject_cases {s t : State} (h : execCmdReject s = .next t) :
    (s.ready = true ∧ s.fault = false ∧ t = { s with
        buf := s.buf.drop 1, scan := 0, ready := false, invalid := true, lastCause := .reject }) ∨
      (s.ready = true ∧ s.fault = true ∧ t = { s with buf := [], scan := 0, ready := false }) ∨
      (s.ready = false ∧ t = s) := by
  unfold execCmdReject at h
  cases hr : s.ready <;> cases hf : s.fault <;> simp_all [State.abandon, State.takeCause_reject]

end Sys2Proof.Machine
end

