-- ==== Sys2Proof/Laws/Checksum.lean ====
section
/-! SUPPORT. Slices, big-endian values, checksum digits, and the fields of a text line. -/
namespace Sys2Proof.Machine

/-! ## Slices and big-endian values (R10) -/

theorem be_snoc (l : List Byte) (x : Byte) : be (l ++ [x]) = be l * 256 + x.toNat := by simp [be]

/-- A slice begins with its first byte. -/
theorem slice_eq_cons {l : List Byte} {a n : Nat} {x : Byte} (h : l[a]? = some x) (hn : a < n) :
    slice l a n = x :: slice l (a + 1) n := by
  unfold slice
  have hx : (l.take n)[a]? = some x := by
    rw [List.getElem?_take_of_lt hn]
    exact h
  obtain ⟨h1, h2⟩ := List.getElem?_eq_some_iff.1 hx
  rw [List.drop_eq_getElem_cons h1, h2]

theorem slice_eq_nil {l : List Byte} {a n : Nat} (h : n ≤ a) : slice l a n = [] := by
  rw [slice, List.drop_eq_nil_iff, List.length_take]
  omega

/-- A slice of a prefix that reaches its end. -/
theorem slice_take (l : List Byte) {a n m : Nat} (h : n ≤ m) : slice (l.take m) a n = slice l a n := by
  rw [slice, slice, List.take_take, Nat.min_eq_left h]

/-! ## Text lines (R152 to R155) -/

theorem hexDigit_eq_some_iff (x : Byte) (h : Nat) : hexDigit x = some h ↔ digitValue x h := by
  unfold hexDigit digitValue
  split
  · simp only [Option.some.injEq]
    omega
  · split
    · simp only [Option.some.injEq]
      omega
    · simp only [reduceCtorEq, false_iff]
      omega

/-- A value has one digit, so a digit is determined by its value (R152). -/
theorem digitValue_inj {x y : Byte} {h : Nat} (hx : digitValue x h) (hy : digitValue y h) : x = y := by
  unfold digitValue at hx hy
  exact BitVec.eq_of_toNat_eq (by omega)

/-- Where the parts of a text line stand. -/
theorem textLine_parts (m d1 d2 : Byte) (body : List Byte) :
    let l := m :: body ++ [0x2A#8, d1, d2, 0x0D#8, 0x0A#8]
    l.length = body.length + 6 ∧ textBody l = body ∧ l[l.length - 2]? = some 0x0D#8 ∧
      l[l.length - 5]? = some 0x2A#8 ∧ l[l.length - 4]? = some d1 ∧ l[l.length - 3]? = some d2 := by
  intro l
  have hl : l.length = body.length + 6 := by simp [l]
  refine ⟨hl, by simp [textBody, slice, l], ?_, ?_, ?_, ?_⟩
  all_goals rw [hl]; simp [l]

/-- What a text line's two digits and its body give (R154, R155). -/
theorem textLine_values {l body : List Byte} {h1 h2 : Nat} (h : textLine l body h1 h2) :
    writtenXor l = some (16 * h1 + h2) ∧ xor8 l = body.foldl (· ^^^ ·) 0x00#8 := by
  obtain ⟨m, d1, d2, rfl, -, k1, k2⟩ := h
  obtain ⟨-, g2, -, -, g5, g6⟩ := textLine_parts m d1 d2 body
  unfold writtenXor xor8 digitAt
  rw [g2, g5, g6]
  simp [(hexDigit_eq_some_iff _ _).2 k1, (hexDigit_eq_some_iff _ _).2 k2]

end Sys2Proof.Machine
end

