-- ==== Sys2Proof/Laws/Decode.lean ====
section
/-! SUPPORT. The fields of the descriptors an encoding builds, and the fields of any descriptor as
arithmetic on its value. -/
namespace Sys2Proof

/-! ## Fields by value (R80 to R82) -/

theorem portOf_toNat (d : Descriptor) : (portOf d).toNat = d.toNat / 2 ^ 46 := by
  have := d.isLt
  rw [portOf, extract_toNat]
  omega

theorem kindOf_toNat (d : Descriptor) : (kindOf d).toNat = d.toNat / 2 ^ 44 % 4 := extract_toNat d 44 2

theorem addrOf_toNat (d : Descriptor) : (addrOf d).toNat = d.toNat / 2 ^ 32 % 2 ^ 12 := extract_toNat d 32 12

theorem dataOf_toNat (d : Descriptor) : (dataOf d).toNat = d.toNat % 2 ^ 32 := by
  rw [dataOf, extract_toNat, Nat.pow_zero, Nat.div_one]

theorem byteOf_toNat (d : Descriptor) : (byteOf d).toNat = d.toNat % 256 := by
  rw [byteOf, extract_toNat, Nat.pow_zero, Nat.div_one]
  rfl

theorem codeOf_toNat (data : Word) : (codeOf data).toNat = data.toNat % 16 := by
  rw [codeOf, extract_toNat, Nat.pow_zero, Nat.div_one]
  rfl

/-- The window index of an offset inside the window (R47). -/
theorem windowIndexOf_toNat (addr : Offset) : (windowIndexOf addr).toNat = addr.toNat / 4 % 256 :=
  extract_toNat addr 2 8

theorem windowOffset_toNat (k : BitVec 8) : (windowOffset k).toNat = 0x400 + 4 * k.toNat := by
  simp only [windowOffset, toNat_append_add, BitVec.toNat_ofNat]
  omega

/-! ## Descriptors built by the encoder -/

theorem hostDescriptor_toNat (w : Bool) (addr : Offset) (data : Word) :
    (hostDescriptor w addr data).toNat = w.toNat * 2 ^ 45 + addr.toNat * 2 ^ 32 + data.toNat := by
  simp only [hostDescriptor, toNat_append_add, BitVec.toNat_ofNat, BitVec.toNat_ofBool]
  omega

theorem streamDescriptor_toNat (kind : BitVec 2) (b : Byte) :
    (streamDescriptor kind b).toNat = 2 ^ 46 + kind.toNat * 2 ^ 44 + b.toNat := by
  simp only [streamDescriptor, toNat_append_add, BitVec.toNat_ofNat]
  omega

@[simp] theorem portOf_host (w : Bool) (addr : Offset) (data : Word) :
    portOf (hostDescriptor w addr data) = 0#2 := by
  have h1 := Bool.toNat_le w
  have h2 := addr.isLt
  have h3 := data.isLt
  exact extract_of_div (by rw [hostDescriptor_toNat, BitVec.toNat_ofNat]; omega)

@[simp] theorem writeOf_host (w : Bool) (addr : Offset) (data : Word) :
    writeOf (hostDescriptor w addr data) = w := by
  have h1 := Bool.toNat_le w
  have h2 := addr.isLt
  have h3 := data.isLt
  exact getLsbD_of_div (by rw [hostDescriptor_toNat]; omega)

@[simp] theorem hostRsvOf_host (w : Bool) (addr : Offset) (data : Word) :
    hostRsvOf (hostDescriptor w addr data) = false := by
  have h1 := Bool.toNat_le w
  have h2 := addr.isLt
  have h3 := data.isLt
  exact getLsbD_of_div (by rw [hostDescriptor_toNat, Bool.toNat_false]; omega)

@[simp] theorem addrOf_host (w : Bool) (addr : Offset) (data : Word) :
    addrOf (hostDescriptor w addr data) = addr := by
  have h1 := Bool.toNat_le w
  have h2 := addr.isLt
  have h3 := data.isLt
  exact extract_of_div (by rw [hostDescriptor_toNat]; omega)

@[simp] theorem dataOf_host (w : Bool) (addr : Offset) (data : Word) :
    dataOf (hostDescriptor w addr data) = data := by
  have h1 := Bool.toNat_le w
  have h2 := addr.isLt
  have h3 := data.isLt
  exact extract_of_div (by rw [hostDescriptor_toNat]; omega)

@[simp] theorem portOf_stream (kind : BitVec 2) (b : Byte) : portOf (streamDescriptor kind b) = 1#2 := by
  have h1 := kind.isLt
  have h2 := b.isLt
  exact extract_of_div (by rw [streamDescriptor_toNat, BitVec.toNat_ofNat]; omega)

@[simp] theorem kindOf_stream (kind : BitVec 2) (b : Byte) : kindOf (streamDescriptor kind b) = kind := by
  have h1 := kind.isLt
  have h2 := b.isLt
  exact extract_of_div (by rw [streamDescriptor_toNat]; omega)

@[simp] theorem byteOf_stream (kind : BitVec 2) (b : Byte) : byteOf (streamDescriptor kind b) = b := by
  have h1 := kind.isLt
  have h2 := b.isLt
  exact extract_of_div (by rw [streamDescriptor_toNat]; omega)

/-! ## Offsets (R61, R84) -/

/-- An aligned offset meets neither misalignment refusal. -/
theorem aligned_bits {addr : Offset} (h : addr.toNat % 4 = 0) :
    addr.getLsbD 0 = false ∧ addr.extractLsb' 0 2 = 0#2 :=
  ⟨getLsbD_of_div (by rw [Bool.toNat_false]; omega),
    extract_of_div (by rw [BitVec.toNat_ofNat]; omega)⟩

theorem inWindow_iff (addr : Offset) : inWindow addr = true ↔ addr.toNat / 0x400 = 1 := by
  have := addr.isLt
  rw [inWindow, decide_eq_true_iff, ← BitVec.toNat_inj, extract_toNat, BitVec.toNat_ofNat]
  omega

/-- Every aligned offset is one of the twelve registers, a window word, or unmapped (R60, R63). -/
theorem aligned_cases {addr : Offset} (h : addr.toNat % 4 = 0) :
    (addr = 0x000#12 ∨ addr = 0x004#12 ∨ addr = 0x008#12 ∨ addr = 0x00C#12 ∨ addr = 0x010#12 ∨
      addr = 0x014#12 ∨ addr = 0x018#12 ∨ addr = 0x01C#12 ∨ addr = 0x020#12 ∨ addr = 0x024#12 ∨
      addr = 0x028#12 ∨ addr = 0x02C#12) ∨
      (∃ k, addr = windowOffset k) ∨ addr.unmapped = true := by
  have := addr.isLt
  by_cases hr : addr.toNat < 0x030
  · left
    simp only [← BitVec.toNat_inj, BitVec.toNat_ofNat]
    omega
  · right
    by_cases hw : addr.toNat / 0x400 = 1
    · left
      refine ⟨windowIndexOf addr, BitVec.eq_of_toNat_eq ?_⟩
      rw [windowOffset_toNat, windowIndexOf_toNat]
      omega
    · right
      simp only [Offset.unmapped, Offset.aligned, Offset.mapped, Bool.and_eq_true, Bool.not_eq_true',
        Bool.or_eq_false_iff, Bool.and_eq_false_iff, decide_eq_true_iff, decide_eq_false_iff_not]
      omega

theorem windowIndexOf_windowOffset (k : BitVec 8) : windowIndexOf (windowOffset k) = k := by
  have := k.isLt
  exact BitVec.eq_of_toNat_eq (by rw [windowIndexOf_toNat, windowOffset_toNat]; omega)

/-- A window offset lies in the window and is no register's offset. -/
theorem windowOffset_facts (k : BitVec 8) :
    (windowOffset k).toNat % 4 = 0 ∧ inWindow (windowOffset k) = true ∧
      ∀ c : Offset, c.toNat < 0x400 → windowOffset k ≠ c := by
  have h := windowOffset_toNat k
  have hk := k.isLt
  refine ⟨by omega, by rw [inWindow_iff]; omega, fun c hc he => ?_⟩
  rw [he] at h
  omega

/-- An unmapped offset lies outside the window and is no register's offset. -/
theorem unmapped_facts {addr : Offset} (h : addr.unmapped = true) :
    addr.toNat % 4 = 0 ∧ inWindow addr = false ∧ ∀ c : Offset, c.toNat < 0x030 → addr ≠ c := by
  simp only [Offset.unmapped, Offset.aligned, Offset.mapped, Bool.and_eq_true, Bool.not_eq_true',
    Bool.or_eq_false_iff, Bool.and_eq_false_iff, decide_eq_true_iff, decide_eq_false_iff_not] at h
  refine ⟨h.1, ?_, fun c hc he => ?_⟩
  · rw [← Bool.not_eq_true, inWindow_iff]
    omega
  · rw [he] at h
    omega

theorem decodeRead_window (k : BitVec 8) : decodeRead (windowOffset k) = .rdFrameWin k := by
  obtain ⟨-, hin, ne⟩ := windowOffset_facts k
  simp [decodeRead, hin, windowIndexOf_windowOffset, ne]

theorem decodeWrite_window (k : BitVec 8) (data : Word) :
    decodeWrite (windowOffset k) data = .wrFrameWin k data := by
  obtain ⟨-, hin, ne⟩ := windowOffset_facts k
  simp [decodeWrite, hin, windowIndexOf_windowOffset, ne]

theorem decodeRead_unmapped {addr : Offset} (h : addr.unmapped = true) :
    decodeRead addr = .rdUnmapped addr := by
  obtain ⟨-, hin, ne⟩ := unmapped_facts h
  simp [decodeRead, hin, ne]

theorem decodeWrite_unmapped {addr : Offset} (data : Word) (h : addr.unmapped = true) :
    decodeWrite addr data = .wrUnmapped addr data := by
  obtain ⟨-, hin, ne⟩ := unmapped_facts h
  simp [decodeWrite, hin, ne]

/-- The offset of a HOST descriptor that no refusal takes is aligned (R61, R62). -/
theorem aligned_of_bits {addr : Offset} (h0 : addr.getLsbD 0 = false) (h1 : addr.extractLsb' 0 2 ≠ 2#2) :
    addr.toNat % 4 = 0 := by
  rw [getLsbD_eq_div, decide_eq_false_iff_not, Nat.pow_zero, Nat.div_one] at h0
  have h2 : addr.toNat % 4 ≠ 2 := fun h => h1 (extract_of_div (by
    rw [Nat.pow_zero, Nat.div_one]
    exact h))
  omega

/-- A descriptor of an aligned host access decodes by its offset and direction. -/
theorem decode_host {w : Bool} {addr : Offset} (data : Word) (h : addr.toNat % 4 = 0) :
    decode (hostDescriptor w addr data) = if w then decodeWrite addr data else decodeRead addr := by
  obtain ⟨h0, h1⟩ := aligned_bits h
  simp only [decode, decodeHost, portOf_host, hostRsvOf_host, addrOf_host, dataOf_host, writeOf_host, h0, h1]
  rfl

theorem decode_stream (kind : BitVec 2) (b : Byte) :
    decode (streamDescriptor kind b) =
      if kind = 0#2 then .rxByte b else if kind = 1#2 then .rxTimeout
      else if kind = 2#2 then .rxFault else .refusedStreamKind := by
  simp [decode, decodeStream]

end Sys2Proof
end

