-- ==== Sys2Proof/Laws/Engine.lean ====
section
/-! SUPPORT. What an engine step does to candidates: facts of legal configurations, of growing candidates,
and of states that meet the invariant. -/
namespace Sys2Proof.Machine

/-! ## Legal configurations (R54, R55) -/

/-- What a legal configuration gives in every mode. -/
theorem State.legal_parts {s : State} (h : s.legal = true) :
    1 ≤ s.patLen ∧ s.patLen ≤ 8 ∧ s.lmax ≤ s.params.maxFrame ∧ s.patLen + 2 ≤ s.lmax ∧
    (s.mode = .binLenfield → s.patLen ≤ s.lenCfg.lenOff.toNat ∧ s.lenEnd + 2 ≤ s.maxLen.toNat) ∧ s.mode ≠ .reserved := by
  unfold State.legal at h
  rw [Bool.and_eq_true] at h
  obtain ⟨hf, hl⟩ := h
  simp only [State.frameCfgLegal, Bool.and_eq_true, decide_eq_true_eq] at hf
  obtain ⟨⟨h1, h2⟩, h3⟩ := hf
  have h2 : s.patLen ≤ 8 := h2
  have h4 : s.lenCfg.lenOff.toNat + 1 ≤ s.lenEnd := by unfold State.lenEnd State.lenWidth; omega
  unfold State.lengthsLegal at hl
  unfold State.lmax
  cases hm : s.mode <;> simp only [hm, Bool.and_eq_true, decide_eq_true_eq] at hl h3 ⊢
  · exact ⟨h1, h2, hl.2, hl.1, by simp, by simp⟩
  · exact ⟨h1, h2, hl.2, by omega, fun _ => hl.1, by simp⟩
  · exact ⟨h1, h2, hl.2, by omega, by simp, by simp⟩
  · cases hl

/-- The empty candidate is open under a legal configuration. -/
theorem State.open_nil {s : State} (h : s.legal = true) : s.openCandidate [] := by
  obtain ⟨h1, h2, h3, h4, h5, h6⟩ := State.legal_parts h
  refine ⟨by intro k hk; simp at hk, by simp; omega, ?_⟩
  cases hm : s.mode
  · trivial
  · intro hh; exfalso; have := s.lenCfg.lenOff.toNat; simp [State.lenEnd, State.lenWidth] at hh
  · intro k _ hk; simp at hk
  · exact h6 hm

/-- A terminal length exceeds the pattern's length. -/
theorem State.terminal_gt {s : State} {l : List Byte} {n : Nat} (hl : s.legal = true) (h : s.terminal l n) : s.patLen + 1 ≤ n := by
  obtain ⟨g1, g2, g3, g4, g5, g6⟩ := State.legal_parts hl
  unfold State.terminal at h
  unfold State.lmax at g4
  cases hm : s.mode <;> simp only [hm] at h g4
  · omega
  · obtain ⟨ha, ⟨hb1, hb2⟩, hc⟩ := h
    have := (g5 hm).1; unfold State.lenEnd State.lenWidth at *; omega
  · omega


/-! ## Candidates that grow by one byte -/

theorem take_succ_of_get {l : List Byte} {n : Nat} {b : Byte} (h : l[n]? = some b) : l.take (n+1) = l.take n ++ [b] := by
  rw [List.take_add_one, h]; rfl

theorem State.announcedLen_congr (s : State) {l l' : List Byte} (h : ∀ k, k < s.lenEnd → l[k]? = l'[k]?) :
   s.announcedLen l = s.announcedLen l' := by
  unfold State.announcedLen slice
  have : l.take s.lenEnd = l'.take s.lenEnd := by
    apply List.ext_getElem?
    intro k
    rw [List.getElem?_take, List.getElem?_take]
    split
    · exact h k ‹_›
    · rfl
  rw [this]

theorem State.announcedLen_take (s : State) (l : List Byte) (n : Nat) (h : s.lenEnd ≤ n) : s.announcedLen (l.take n) = s.announcedLen l :=
  State.announcedLen_congr s fun k hk => by rw [List.getElem?_take, if_pos (by omega)]

theorem State.beginsPattern_snoc {s : State} {l : List Byte} {n : Nat} {b : Byte} (hn : n ≤ l.length) (h : s.beginsPattern (l.take n)) (hb : l[n]? = some b)
   (hp : n < s.patLen → s.patternByte n = some b) : s.beginsPattern (l.take (n+1)) := by
  intro k hk hk'
  have hlen : n < l.length := (List.getElem?_eq_some_iff.1 hb).1
  rcases Nat.lt_trichotomy k n with hkn | rfl | hkn
  · have := h k (by simp; omega) hk'
    rw [List.getElem?_take, if_pos (by omega)] at this ⊢; exact this
  · rw [List.getElem?_take, if_pos (by omega), hb, hp hk']
  · simp at hk; omega

/-! ## States that meet the invariant -/

/-- A state that holds no byte meets the invariant. -/
theorem State.Inv.idle {s : State} (hp : s.params.legal = true) (hb : s.buf = []) (hs : s.scan = 0) (hr : s.ready = false)
   (he : s.en = true → s.legal = true) (hf : s.fault = true → s.lastCause = .ioFault ∧ s.faultSeen = true) : s.Inv where
  params_legal := hp
  scan_le := by simp [hs]
  buf_le := by simp [hb]
  enabled_legal := he
  idle_empty := fun _ => ⟨hb, hs, hr⟩
  fault_quiet := fun _ => ⟨by simp [hb, hs], fun _ => hb⟩
  fault_cause := hf
  candidate_open := fun h _ _ => by rw [hb, List.take_nil]; exact State.open_nil (he h)
  ready_frame := fun h => by simp [hr] at h

/-- Dropping bytes at the front and rescanning keeps the invariant. -/
theorem State.Inv.restart {s t : State} (h : s.Inv) (he : s.en = true) (hf : s.fault = false) 
   (ht : ∃ k i c, t = { s with buf := s.buf.drop k, scan := 0, ready := false, invalid := i, lastCause := c }) : t.Inv := by
  obtain ⟨k, i, c, rfl⟩ := ht
  have hl := h.enabled_legal he
  exact {
    params_legal := h.params_legal
    scan_le := by simp
    buf_le := by have := h.buf_le; simp; omega
    enabled_legal := fun _ => hl
    idle_empty := fun h' => by simp [he] at h'
    fault_quiet := fun h' => by simp [hf] at h'
    fault_cause := fun h' => by simp [hf] at h'
    candidate_open := fun _ _ _ => by
      show s.openCandidate _
      simpa using State.open_nil hl
    ready_frame := fun h' => by simp at h' }

/-- Keeping an examined byte of an open candidate keeps the invariant. -/
theorem State.Inv.keepByte {s : State} (h : s.Inv) (he : s.engineEnabled = true)
   (ho : s.openCandidate (s.buf.take (s.scan+1))) : State.Inv { s with scan := s.scan + 1 } := by
  obtain ⟨h1, h2, h3, h4⟩ := (s.engineEnabled_iff).1 he
  exact {
    params_legal := h.params_legal
    scan_le := h4
    buf_le := h.buf_le
    enabled_legal := h.enabled_legal
    idle_empty := fun h' => by simp [h1] at h'
    fault_quiet := fun h' => by simp [h2] at h'
    fault_cause := fun h' => by simp [h2] at h'
    candidate_open := fun _ _ _ => ho
    ready_frame := fun h' => by simp [h3] at h' }

/-- Handing over a frame keeps the invariant. -/
theorem State.Inv.handOver {s : State} (h : s.Inv) (he : s.engineEnabled = true)
   (ho : s.framesAt s.buf (s.scan+1)) : State.Inv { s with scan := s.scan + 1, ready := true } := by
  obtain ⟨h1, h2, h3, h4⟩ := (s.engineEnabled_iff).1 he
  exact {
    params_legal := h.params_legal
    scan_le := h4
    buf_le := h.buf_le
    enabled_legal := h.enabled_legal
    idle_empty := fun h' => by simp [h1] at h'
    fault_quiet := fun h' => by simp [h2] at h'
    fault_cause := fun h' => by simp [h2] at h'
    candidate_open := fun _ _ h' => by simp at h'
    ready_frame := fun _ => ho }

/-! ## The engine step, said without the engine (R120 to R126) -/

/-- An engine step from a state that meets the invariant keeps the byte of an open candidate, hands over a frame,
or slides because the bytes start neither an open candidate nor a frame. -/
theorem execEngineStep_candidates {s t : State} (h : s.Inv) (hx : execEngineStep s = .next t) :
   s.engineEnabled = true ∧
   ((t = { s with scan := s.scan + 1 } ∧ s.openCandidate (s.buf.take (s.scan+1))) ∨
    (t = { s with scan := s.scan + 1, ready := true } ∧ s.framesAt s.buf (s.scan+1)) ∨
    ((∃ i c, t = { s with buf := s.buf.drop 1, scan := 0, invalid := i, lastCause := c }) ∧ ¬ s.openCandidate s.buf ∧ ∀ n, ¬ s.framesAt s.buf n)) := by
  obtain ⟨he, hfc, b, hb, hc⟩ := execEngineStep_cases hx
  refine ⟨he, ?_⟩
  obtain ⟨h1, h2, h3, h4⟩ := (s.engineEnabled_iff).1 he
  obtain ⟨g1, g2, g3, g4, g5, g6⟩ := State.legal_parts (h.enabled_legal h1)
  obtain ⟨o1, o2, o3⟩ := h.candidate_open h1 h2 h3
  have hlt : (s.buf.take s.scan).length = s.scan := by simp; omega
  have hlt' : (s.buf.take (s.scan+1)).length = s.scan + 1 := by simp; omega
  rw [hlt] at o2
  have noframe_of {T : Nat} (hT : ∀ n, s.terminal s.buf n → n = T) (hv : ¬ validate s.algorithm (s.buf.take T) = .valid) : ∀ n, ¬ s.framesAt s.buf n := by
    rintro n ⟨_, _, ht, hv'⟩
    rw [hT n ht] at hv'; exact hv hv'
  obtain ⟨hp, rfl⟩ | ⟨hp, hm, rfl⟩ | ⟨hp, hm, rfl⟩ | ⟨hp, hm, rfl⟩ := hc
  · -- pattern
    unfold State.matchPattern
    split
    · rename_i hq
      left
      refine ⟨rfl, State.beginsPattern_snoc h.scan_le o1 hb (fun _ => by simpa using hq), by rw [hlt']; omega, ?_⟩
      cases hm : s.mode
      · trivial
      · intro hh; have := (g5 hm).1; rw [hlt'] at hh; unfold State.lenEnd State.lenWidth at hh; omega
      · intro k hk hk'; rw [hlt'] at hk'; omega
      · exact g6 hm
    · rename_i hq
      right; right
      have nb : ∀ n, s.scan < n → ¬ s.beginsPattern (s.buf.take n) := by
        intro n hn hbeg
        have := hbeg s.scan (by simp; omega) (by omega)
        rw [List.getElem?_take, if_pos hn, hb] at this
        exact hq (by simpa using this.symm)
      have nb' : ¬ s.beginsPattern s.buf := by
        have := nb s.buf.length h4; simpa using this
      refine ⟨⟨s.invalid, s.lastCause, rfl⟩, fun ho => nb' ho.1, ?_⟩
      rintro n ⟨_, hbeg, ht, _⟩
      refine nb n ?_ hbeg
      unfold State.terminal at ht
      unfold State.lmax at g4
      cases hm : s.mode <;> simp only [hm] at ht g4
      · omega
      · obtain ⟨ha, ⟨hb1, hb2⟩, hc⟩ := ht
        have := (g5 hm).1; unfold State.lenEnd State.lenWidth at *; omega
      · omega
  all_goals have hbeg := State.beginsPattern_snoc h.scan_le o1 hb (fun hk => absurd hk (by omega))
  · unfold State.collectFixed
    have hlm : s.lmax = s.totalLen.toNat := by simp [State.lmax, hm]
    have halg : s.algorithm = .add16 := by simp [State.algorithm, hm]
    split
    · rename_i hn
      obtain ⟨hv, h⟩ | ⟨c, hv, hc, h⟩ := s.complete_cases .add16 (s.scan + 1)
      · right; left
        exact ⟨h, by omega, hbeg, by simp [State.terminal, hm, hn], by rw [halg]; exact hv⟩
      · right; right
        refine ⟨⟨true, c, h⟩, fun ho => ?_, noframe_of (T := s.scan+1) ?_ ?_⟩
        · have := ho.2.1; omega
        · intro n hn'; simp [State.terminal, hm] at hn'; omega
        · rw [halg, hv]; simp
    · left
      exact ⟨rfl, hbeg, by rw [hlt']; omega, by simp [hm]⟩
  · unfold State.collectLenfield
    have hlm : s.lmax = s.maxLen.toNat := by simp [State.lmax, hm]
    have halg : s.algorithm = .add16 := by simp [State.algorithm, hm]
    have g5 := g5 hm
    simp only [hm] at o3
    split
    · rename_i hn
      left
      exact ⟨rfl, hbeg, by rw [hlt']; omega, by simp only [hm]; rw [hlt']; intro hh; omega⟩
    · rename_i hn
      have hann : s.announcedLen (s.buf.take (s.scan+1)) = s.announcedLen s.buf := State.announcedLen_take s _ _ (by omega)
      dsimp only
      rw [hann]
      -- on the old candidate
      have hold : s.lenEnd ≤ s.scan → s.scan < s.announcedLen s.buf := by
        intro hh
        have := o3 (by rw [hlt]; exact hh)
        rw [State.announcedLen_take s _ _ hh, hlt] at this
        exact this.2
      split
      · rename_i hbad
        right; right
        refine ⟨⟨true, .length, State.takeCause_of_rejects rfl⟩, fun ho => ?_, ?_⟩
        · have := ho.2.2; simp only [hm] at this
          have := (this (by omega)).1; unfold State.announcesLegal at this; omega
        · rintro n ⟨_, _, ht, _⟩
          simp only [State.terminal, hm, State.announcesLegal] at ht; omega
      · rename_i hok
        split
        · rename_i hn'
          obtain ⟨hv, h⟩ | ⟨c, hv, hc, h⟩ := s.complete_cases .add16 (s.scan + 1)
          · right; left
            refine ⟨h, by omega, hbeg, ?_, by rw [halg]; exact hv⟩
            simp only [State.terminal, hm, State.announcesLegal]; omega
          · right; right
            refine ⟨⟨true, c, h⟩, fun ho => ?_, noframe_of (T := s.scan+1) ?_ ?_⟩
            · have := ho.2.2; simp only [hm] at this; have := this (by omega); omega
            · intro n hn'; simp only [State.terminal, hm] at hn'; omega
            · rw [halg, hv]; simp
        · left
          have : s.scan + 1 ≤ s.announcedLen s.buf := by
            by_cases hh : s.lenEnd ≤ s.scan
            · exact hold hh
            · omega
          refine ⟨rfl, hbeg, by rw [hlt']; omega, ?_⟩
          simp only [hm]
          rw [hlt', hann]; unfold State.announcesLegal; rw [hann]; intro _; omega
  · unfold State.collectText
    have hlm : s.lmax = s.maxLen.toNat := by simp [State.lmax, hm]
    have halg : s.algorithm = .xor8 := by simp [State.algorithm, hm]
    simp only [hm] at o3
    rw [hlt] at o3
    have nolf : s.noLfBefore s.buf s.scan := by
      intro k hk hk'; have := o3 k hk hk'; rwa [List.getElem?_take, if_pos hk'] at this
    split
    · rename_i hlf
      have hT : ∀ n, s.terminal s.buf n → n = s.scan + 1 := by
        intro n hn; simp only [State.terminal, hm] at hn
        obtain ⟨t1, t2, t3, t4⟩ := hn
        rcases Nat.lt_trichotomy (n-1) s.scan with h' | h' | h'
        · exact absurd t3 (nolf _ (by omega) h')
        · omega
        · exact absurd (by rw [hb, hlf]) (t4 s.scan (by omega) h')
      obtain ⟨hv, h⟩ | ⟨c, hv, hc, h⟩ := s.complete_cases .xor8 (s.scan + 1)
      · right; left
        refine ⟨h, by omega, hbeg, ?_, by rw [halg]; exact hv⟩
        simp only [State.terminal, hm]
        exact ⟨hp, by omega, by simp [hb, hlf], nolf⟩
      · right; right
        refine ⟨⟨true, c, h⟩, fun ho => ?_, noframe_of (T := s.scan+1) hT ?_⟩
        · have := ho.2.2; simp only [hm] at this; exact this s.scan (by omega) h4 (by rw [hb, hlf])
        · rw [halg, hv]; simp
    · rename_i hlf
      split
      · rename_i hmax
        right; right
        refine ⟨⟨true, .overflow, State.takeCause_of_rejects rfl⟩, fun ho => ?_, ?_⟩
        · have := ho.2.1; omega
        · rintro n ⟨_, _, ht, _⟩
          simp only [State.terminal, hm] at ht
          obtain ⟨t1, t2, t3, t4⟩ := ht
          rcases Nat.lt_or_ge (n-1) s.scan with h' | h'
          · exact absurd t3 (nolf _ (by omega) h')
          · have : n - 1 = s.scan := by omega
            rw [this, hb] at t3; exact hlf (by simpa using t3)
      · left
        refine ⟨rfl, hbeg, by rw [hlt']; omega, ?_⟩
        simp only [hm]; rw [hlt']
        intro k hk hk'
        rw [List.getElem?_take, if_pos hk']
        rcases Nat.lt_or_ge k s.scan with h' | h'
        · exact nolf k hk h'
        · have : k = s.scan := by omega
          subst this; rw [hb]; simpa using hlf

end Sys2Proof.Machine
end

