-- ==== Sys2Proof/Laws/Flags.lean ====
section
/-! SUPPORT. The read views of the registers as arithmetic on their fields, and the status bits. -/
namespace Sys2Proof.Machine

/-- A read of STATUS as the sum of its fields (R34). -/
theorem State.statusWord_toNat (s : State) :
    s.statusWord.toNat = s.ready.toNat + 2 * s.fault.toNat + 4 * s.invalid.toNat + 8 * s.resync.toNat +
      16 * s.cfgErr.toNat + 256 * s.engineState.code.toNat + 4096 * s.lastCause.code.toNat +
      65536 * (s.pending % 65536) := by
  simp only [State.statusWord, toNat_append_add, BitVec.toNat_ofBool, BitVec.toNat_ofNat]
  omega

/-- Bits 0 to 4 of a STATUS read are the five sources of R226, and bit 11 is 0. -/
theorem State.statusWord_bits (s : State) :
    s.statusWord.getLsbD 0 = s.ready ∧ s.statusWord.getLsbD 1 = s.fault ∧
      s.statusWord.getLsbD 2 = s.invalid ∧ s.statusWord.getLsbD 3 = s.resync ∧
      s.statusWord.getLsbD 4 = s.cfgErr ∧ s.statusWord.getLsbD 11 = false := by
  have h1 := Bool.toNat_le s.ready
  have h2 := Bool.toNat_le s.fault
  have h3 := Bool.toNat_le s.invalid
  have h4 := Bool.toNat_le s.resync
  have h5 := Bool.toNat_le s.cfgErr
  have h6 := s.engineState.code.isLt
  have h7 := s.lastCause.code.isLt
  refine ⟨getLsbD_of_div ?_, getLsbD_of_div ?_, getLsbD_of_div ?_, getLsbD_of_div ?_,
    getLsbD_of_div ?_, getLsbD_of_div ?_⟩ <;>
    simp only [State.statusWord_toNat, Bool.toNat_false] <;> omega

theorem State.statusWord_state (s : State) : s.statusWord.extractLsb' 8 3 = s.engineState.code := by
  have h1 := Bool.toNat_le s.ready
  have h2 := Bool.toNat_le s.fault
  have h3 := Bool.toNat_le s.invalid
  have h4 := Bool.toNat_le s.resync
  have h5 := Bool.toNat_le s.cfgErr
  have h6 := s.engineState.code.isLt
  have h7 := s.lastCause.code.isLt
  exact extract_of_div (by rw [State.statusWord_toNat]; omega)

theorem State.statusWord_cause (s : State) : s.statusWord.extractLsb' 12 4 = s.lastCause.code := by
  have h1 := Bool.toNat_le s.ready
  have h2 := Bool.toNat_le s.fault
  have h3 := Bool.toNat_le s.invalid
  have h4 := Bool.toNat_le s.resync
  have h5 := Bool.toNat_le s.cfgErr
  have h6 := s.engineState.code.isLt
  have h7 := s.lastCause.code.isLt
  exact extract_of_div (by rw [State.statusWord_toNat]; omega)

theorem State.statusWord_pending (s : State) :
    s.statusWord.extractLsb' 16 16 = BitVec.ofNat 16 s.pending := by
  have h1 := Bool.toNat_le s.ready
  have h2 := Bool.toNat_le s.fault
  have h3 := Bool.toNat_le s.invalid
  have h4 := Bool.toNat_le s.resync
  have h5 := Bool.toNat_le s.cfgErr
  have h6 := s.engineState.code.isLt
  have h7 := s.lastCause.code.isLt
  exact extract_of_div (by rw [State.statusWord_toNat, BitVec.toNat_ofNat]; omega)

end Sys2Proof.Machine
end

