-- ==== Sys2Proof/Laws/PerInstr.lean ====
section
/-! SUPPORT. Statements made per instruction. EncodeInRow: an operation's descriptor matches the row of
opcode_table.json that bears its mnemonic. -/
namespace Sys2Proof.Laws

/-- Keeping the bits from `n` up (R85). -/
theorem and_high (d : Descriptor) (n : Nat) : d &&& (BitVec.allOnes 48 <<< n) = (d >>> n) <<< n := by
  apply BitVec.eq_of_getLsbD_eq
  intro i hi
  have h48 : i - n < 48 := by omega
  simp only [BitVec.getLsbD_and, BitVec.getLsbD_shiftLeft, BitVec.getLsbD_allOnes, BitVec.getLsbD_ushiftRight,
    hi, h48, decide_true, Bool.true_and, Bool.and_true]
  by_cases h : i < n
  · simp [h]
  · simp [h, show n + (i - n) = i by omega]

/-- Two descriptors that agree from bit `n` up match the same rows that look no lower. -/
theorem and_high_eq {d e : Descriptor} {n : Nat} (h : d.toNat / 2 ^ n = e.toNat / 2 ^ n) :
    d &&& (BitVec.allOnes 48 <<< n) = e &&& (BitVec.allOnes 48 <<< n) := by
  rw [and_high, and_high, show d >>> n = e >>> n from BitVec.eq_of_toNat_eq (by
    rw [BitVec.toNat_ushiftRight, BitVec.toNat_ushiftRight, Nat.shiftRight_eq_div_pow,
      Nat.shiftRight_eq_div_pow, h])]

/-- Bits 47:32 of a HOST descriptor do not depend on its DATA. -/
theorem host_high (w : Bool) (addr : Offset) (data : Word) :
    hostDescriptor w addr data &&& 0xFFFF00000000#48 = hostDescriptor w addr 0#32 &&& 0xFFFF00000000#48 := by
  have hd := data.isLt
  have hm : 0xFFFF00000000#48 = BitVec.allOnes 48 <<< 32 := by decide
  rw [hm]
  apply and_high_eq
  rw [hostDescriptor_toNat, hostDescriptor_toNat, BitVec.toNat_ofNat]
  omega

/-- A row that fixes `PORT`, `W`, bit 44 and `ADDR` accepts the access whatever its DATA. -/
theorem accepts_access {row : OpcodeRow} {w : Bool} {addr : Offset} (data : Word)
    (hm : row.mask = 0xFFFF00000000#48) (h : row.accepts (hostDescriptor w addr 0#32) = true) :
    row.accepts (hostDescriptor w addr data) = true := by
  rw [OpcodeRow.accepts, hm] at h ⊢
  rw [host_high]
  exact h

/-- A window row accepts every window word. -/
theorem accepts_window {row : OpcodeRow} {w : Bool} (k : BitVec 8) (data : Word)
    (hm : row.mask = 0xFC0300000000#48)
    (h : ∀ k, row.accepts (hostDescriptor w (windowOffset k) 0#32) = true) :
    row.accepts (hostDescriptor w (windowOffset k) data) = true := by
  have hs : 0xFC0300000000#48 = 0xFFFF00000000#48 &&& 0xFC0300000000#48 := by decide
  have hk := h k
  rw [OpcodeRow.accepts, hm, hs, ← BitVec.and_assoc] at hk ⊢
  rw [host_high]
  exact hk

/-- A catch-all row accepts every access of its direction. -/
theorem accepts_any {row : OpcodeRow} {w : Bool} (addr : Offset) (data : Word)
    (hm : row.mask = 0xE00000000000#48) (h : row.accepts (hostDescriptor w 0#12 0#32) = true) :
    row.accepts (hostDescriptor w addr data) = true := by
  have hd := data.isLt
  have ha := addr.isLt
  have hs : 0xE00000000000#48 = BitVec.allOnes 48 <<< 45 := by decide
  rw [OpcodeRow.accepts, hm, hs] at h ⊢
  rw [← h, and_high_eq]
  rw [hostDescriptor_toNat, hostDescriptor_toNat, BitVec.toNat_ofNat, BitVec.toNat_ofNat]
  omega

namespace EncodeInRow

/-- R84, R85: the descriptor of `i` matches the row that bears `i`'s mnemonic. -/
def Statement (i : Instr) : Prop :=
  ∃ r ∈ opcodeTable, r.mnemonic = i.mnemonic ∧ r.accepts (encode i) = true

theorem rdCtrl : Statement .rdCtrl :=
  ⟨⟨"RD_CTRL", 0x000000000000#48, 0xFFFF00000000#48, 1⟩, by decide, rfl, by decide⟩

theorem wrCtrl (data : Word) : Statement (.wrCtrl data) :=
  ⟨⟨"WR_CTRL", 0x200000000000#48, 0xFFFF00000000#48, 1⟩, by decide, rfl, accepts_access data rfl (by decide)⟩

theorem rdStatus : Statement .rdStatus :=
  ⟨⟨"RD_STATUS", 0x000400000000#48, 0xFFFF00000000#48, 1⟩, by decide, rfl, by decide⟩

theorem wrStatus (data : Word) : Statement (.wrStatus data) :=
  ⟨⟨"WR_STATUS", 0x200400000000#48, 0xFFFF00000000#48, 1⟩, by decide, rfl, accepts_access data rfl (by decide)⟩

theorem rdCmd : Statement .rdCmd :=
  ⟨⟨"RD_CMD", 0x000800000000#48, 0xFFFF00000000#48, 1⟩, by decide, rfl, by decide⟩

theorem cmdAccept : Statement .cmdAccept :=
  ⟨⟨"CMD_ACCEPT", 0x200800000001#48, 0xFFFF0000000F#48, 1⟩, by decide, rfl, by decide⟩

theorem cmdReject : Statement .cmdReject :=
  ⟨⟨"CMD_REJECT", 0x200800000002#48, 0xFFFF0000000F#48, 1⟩, by decide, rfl, by decide⟩

theorem cmdSoftReset : Statement .cmdSoftReset :=
  ⟨⟨"CMD_SOFT_RESET", 0x20080000000F#48, 0xFFFF0000000F#48, 1⟩, by decide, rfl, by decide⟩

theorem cmdReserved (code : BitVec 4) : Statement (.cmdReserved code) :=
  ⟨⟨"CMD_RESERVED", 0x200800000000#48, 0xFFFF00000000#48, 2⟩, by decide, rfl, accepts_access (0#28 ++ code) rfl (by decide)⟩

theorem rdIrqEn : Statement .rdIrqEn :=
  ⟨⟨"RD_IRQ_EN", 0x000C00000000#48, 0xFFFF00000000#48, 1⟩, by decide, rfl, by decide⟩

theorem wrIrqEn (data : Word) : Statement (.wrIrqEn data) :=
  ⟨⟨"WR_IRQ_EN", 0x200C00000000#48, 0xFFFF00000000#48, 1⟩, by decide, rfl, accepts_access data rfl (by decide)⟩

theorem rdFrameCfg : Statement .rdFrameCfg :=
  ⟨⟨"RD_FRAME_CFG", 0x001000000000#48, 0xFFFF00000000#48, 1⟩, by decide, rfl, by decide⟩

theorem wrFrameCfg (data : Word) : Statement (.wrFrameCfg data) :=
  ⟨⟨"WR_FRAME_CFG", 0x201000000000#48, 0xFFFF00000000#48, 1⟩, by decide, rfl, accepts_access data rfl (by decide)⟩

theorem rdPattern0 : Statement .rdPattern0 :=
  ⟨⟨"RD_PATTERN0", 0x001400000000#48, 0xFFFF00000000#48, 1⟩, by decide, rfl, by decide⟩

theorem wrPattern0 (data : Word) : Statement (.wrPattern0 data) :=
  ⟨⟨"WR_PATTERN0", 0x201400000000#48, 0xFFFF00000000#48, 1⟩, by decide, rfl, accepts_access data rfl (by decide)⟩

theorem rdPattern1 : Statement .rdPattern1 :=
  ⟨⟨"RD_PATTERN1", 0x001800000000#48, 0xFFFF00000000#48, 1⟩, by decide, rfl, by decide⟩

theorem wrPattern1 (data : Word) : Statement (.wrPattern1 data) :=
  ⟨⟨"WR_PATTERN1", 0x201800000000#48, 0xFFFF00000000#48, 1⟩, by decide, rfl, accepts_access data rfl (by decide)⟩

theorem rdTotalLen : Statement .rdTotalLen :=
  ⟨⟨"RD_TOTAL_LEN", 0x001C00000000#48, 0xFFFF00000000#48, 1⟩, by decide, rfl, by decide⟩

theorem wrTotalLen (data : Word) : Statement (.wrTotalLen data) :=
  ⟨⟨"WR_TOTAL_LEN", 0x201C00000000#48, 0xFFFF00000000#48, 1⟩, by decide, rfl, accepts_access data rfl (by decide)⟩

theorem rdMaxLen : Statement .rdMaxLen :=
  ⟨⟨"RD_MAX_LEN", 0x002000000000#48, 0xFFFF00000000#48, 1⟩, by decide, rfl, by decide⟩

theorem wrMaxLen (data : Word) : Statement (.wrMaxLen data) :=
  ⟨⟨"WR_MAX_LEN", 0x202000000000#48, 0xFFFF00000000#48, 1⟩, by decide, rfl, accepts_access data rfl (by decide)⟩

theorem rdLenCfg : Statement .rdLenCfg :=
  ⟨⟨"RD_LEN_CFG", 0x002400000000#48, 0xFFFF00000000#48, 1⟩, by decide, rfl, by decide⟩

theorem wrLenCfg (data : Word) : Statement (.wrLenCfg data) :=
  ⟨⟨"WR_LEN_CFG", 0x202400000000#48, 0xFFFF00000000#48, 1⟩, by decide, rfl, accepts_access data rfl (by decide)⟩

theorem rdFrameLen : Statement .rdFrameLen :=
  ⟨⟨"RD_FRAME_LEN", 0x002800000000#48, 0xFFFF00000000#48, 1⟩, by decide, rfl, by decide⟩

theorem wrFrameLen (data : Word) : Statement (.wrFrameLen data) :=
  ⟨⟨"WR_FRAME_LEN", 0x202800000000#48, 0xFFFF00000000#48, 1⟩, by decide, rfl, accepts_access data rfl (by decide)⟩

theorem rdCaps : Statement .rdCaps :=
  ⟨⟨"RD_CAPS", 0x002C00000000#48, 0xFFFF00000000#48, 1⟩, by decide, rfl, by decide⟩

theorem wrCaps (data : Word) : Statement (.wrCaps data) :=
  ⟨⟨"WR_CAPS", 0x202C00000000#48, 0xFFFF00000000#48, 1⟩, by decide, rfl, accepts_access data rfl (by decide)⟩

theorem rdFrameWin (k : BitVec 8) : Statement (.rdFrameWin k) :=
  ⟨⟨"RD_FRAME_WIN", 0x040000000000#48, 0xFC0300000000#48, 1⟩, by decide, rfl, accepts_window k 0#32 rfl (by decide)⟩

theorem wrFrameWin (k : BitVec 8) (data : Word) : Statement (.wrFrameWin k data) :=
  ⟨⟨"WR_FRAME_WIN", 0x240000000000#48, 0xFC0300000000#48, 1⟩, by decide, rfl, accepts_window k data rfl (by decide)⟩

theorem rdUnmapped (addr : Offset) : Statement (.rdUnmapped addr) :=
  ⟨⟨"RD_UNMAPPED", 0x000000000000#48, 0xE00000000000#48, 3⟩, by decide, rfl, accepts_any addr 0#32 rfl (by decide)⟩

theorem wrUnmapped (addr : Offset) (data : Word) : Statement (.wrUnmapped addr data) :=
  ⟨⟨"WR_UNMAPPED", 0x200000000000#48, 0xE00000000000#48, 3⟩, by decide, rfl, accepts_any addr data rfl (by decide)⟩

theorem rxByte (b : Byte) : Statement (.rxByte b) :=
  ⟨⟨"RX_BYTE", 0x400000000000#48, 0xF00000000000#48, 1⟩, by decide, rfl, by revert b; decide⟩

theorem rxTimeout : Statement .rxTimeout :=
  ⟨⟨"RX_TIMEOUT", 0x500000000000#48, 0xF00000000000#48, 1⟩, by decide, rfl, by decide⟩

theorem rxFault : Statement .rxFault :=
  ⟨⟨"RX_FAULT", 0x600000000000#48, 0xF00000000000#48, 1⟩, by decide, rfl, by decide⟩

theorem engineStep : Statement .engineStep :=
  ⟨⟨"ENGINE_STEP", 0xC00000000000#48, 0xC00000000000#48, 1⟩, by decide, rfl, by decide⟩

theorem refusedPort : Statement .refusedPort :=
  ⟨⟨"REFUSED_PORT", 0x800000000000#48, 0xC00000000000#48, 0⟩, by decide, rfl, by decide⟩

theorem refusedStreamKind : Statement .refusedStreamKind :=
  ⟨⟨"REFUSED_STREAM_KIND", 0x700000000000#48, 0xF00000000000#48, 0⟩, by decide, rfl, by decide⟩

theorem refusedHostRsv : Statement .refusedHostRsv :=
  ⟨⟨"REFUSED_HOST_RSV", 0x100000000000#48, 0xD00000000000#48, 0⟩, by decide, rfl, by decide⟩

theorem refusedMisalignedA0 : Statement .refusedMisalignedA0 :=
  ⟨⟨"REFUSED_MISALIGNED_A0", 0x000100000000#48, 0xD00100000000#48, 0⟩, by decide, rfl, by decide⟩

theorem refusedMisalignedA1 : Statement .refusedMisalignedA1 :=
  ⟨⟨"REFUSED_MISALIGNED_A1", 0x000200000000#48, 0xD00300000000#48, 0⟩, by decide, rfl, by decide⟩

end EncodeInRow

end Sys2Proof.Laws
end

