-- ==== Sys2Proof/Laws/Run.lean ====
section
/-! SUPPORT. Runs of several steps, taken apart and put together. -/
namespace Sys2Proof.Machine

/-- A run of engine steps from a state with none enabled is empty. -/
theorem engineRun_stop {k : Nat} {s t : State} (h : engineRun k s = some t) (he : s.engineEnabled = false) : k = 0 ∧ t = s := by
  cases k with
  | zero => simp [engineRun] at h; exact ⟨rfl, h.symm⟩
  | succ k => simp [engineRun, exec, execEngineStep, he] at h

/-- A `DRAIN` at the front performs the engine steps (R92). -/
theorem runSteps_of_engineRun : ∀ (k : Nat) (s t : State) (rest : List Event), s.trace = .drain :: rest → engineRun k s = some t →
   runSteps k s = .next t := by
  intro k
  induction k with
  | zero => intro s t r h1 h2; simp [engineRun] at h2; subst h2; rfl
  | succ k ih =>
    intro s t r h1 h2
    by_cases he : s.engineEnabled = true
    · simp only [engineRun] at h2
      split at h2
      · rename_i u hu
        have htr : u.trace = .drain :: r := by
          obtain ⟨_, rfl | rfl | rfl | ⟨c, _, rfl⟩⟩ := execEngineStep_shape (show execEngineStep s = .next u from hu) <;> exact h1
        have : step s = .next u := by
          unfold step; rw [h1]; simp only [he, if_true]; exact hu
        simp only [runSteps, this]
        exact ih u t r htr h2
      · cases h2
      · cases h2
    · have := engineRun_stop h2 (by simpa using he); omega
  
theorem runSteps_succ {k : Nat} {s t : State} (h : step s = .next t) : runSteps (k+1) s = runSteps k t := by
  simp only [runSteps, h]

theorem runSteps_inv {k : Nat} {s u : State} (h : runSteps (k+1) s = .next u) : ∃ t, step s = .next t ∧ runSteps k t = .next u := by
  rw [runSteps] at h
  split at h
  · rename_i v hv; exact ⟨v, hv, h⟩
  · cases h
  · cases h

theorem runSteps_add {k : Nat} {s t u : State} (h : runSteps k s = .next t) (h' : step t = .next u) :
   runSteps (k+1) s = .next u := by
  induction k generalizing s with
  | zero =>
    have hst : s = t := by
      have h1 : (Host.Outcome.next s : Host.Outcome State Fault Refusal) = .next t := h
      exact Host.Outcome.next.inj h1
    subst hst
    rw [runSteps_succ h']; rfl
  | succ k ih =>
    obtain ⟨v, hv, hr⟩ := runSteps_inv h
    rw [runSteps_succ hv]; exact ih hr

end Sys2Proof.Machine
end

