-- ==== Sys2Proof/Laws/Trace.lean ====
section
/-! SUPPORT. No operation reads or writes the trace, so an operation can be taken out of one trace and put into
another; hence every finite part of a run (Safety.lean) is the machine's run of a trace (20_memory.md R70). -/
namespace Sys2Proof.Machine

/-! ## The shared operations leave the trace alone -/

@[simp] theorem State.withTrace_withTrace (s : State) (r r' : List Event) :
    (s.withTrace r).withTrace r' = s.withTrace r' := rfl

theorem State.takeCause_withTrace (s : State) (c : Cause) (r : List Event) :
    (s.withTrace r).takeCause c = (s.takeCause c).withTrace r := by
  cases c <;> first
    | rfl
    | (cases hr : s.ready
       · rw [State.takeCause_ioFault_unready hr, State.takeCause_ioFault_unready (s := s.withTrace r) hr]
         rfl
       · rw [State.takeCause_ioFault_ready hr, State.takeCause_ioFault_ready (s := s.withTrace r) hr]
         rfl)

theorem State.unlessEnabled_withTrace (s x : State) (r : List Event) :
    (s.withTrace r).unlessEnabled (x.withTrace r) = (s.unlessEnabled x).withTrace r := by
  cases he : s.en
  · rw [State.unlessEnabled_open he, State.unlessEnabled_open (s := s.withTrace r) he]
  · rw [State.unlessEnabled_locked he, State.unlessEnabled_locked (s := s.withTrace r) he]

theorem State.complete_withTrace (s : State) (alg : Algorithm) (n : Nat) (r : List Event) :
    (s.withTrace r).complete alg n = (s.complete alg n).withTrace r := by
  have hv : validate alg ((s.withTrace r).buf.take n) = validate alg (s.buf.take n) := rfl
  unfold State.complete
  rw [hv]
  cases validate alg (s.buf.take n) with
  | valid => rfl
  | invalid c => exact State.takeCause_withTrace s c r

theorem State.matchPattern_withTrace (s : State) (b : Byte) (n : Nat) (r : List Event) :
    (s.withTrace r).matchPattern b n = (s.matchPattern b n).withTrace r := by
  unfold State.matchPattern
  rw [apply_ite (fun t => State.withTrace t r)]
  rfl

theorem State.collectFixed_withTrace (s : State) (n : Nat) (r : List Event) :
    (s.withTrace r).collectFixed n = (s.collectFixed n).withTrace r := by
  unfold State.collectFixed
  rw [apply_ite (fun t => State.withTrace t r), State.complete_withTrace]
  rfl

theorem State.collectLenfield_withTrace (s : State) (n : Nat) (r : List Event) :
    (s.withTrace r).collectLenfield n = (s.collectLenfield n).withTrace r := by
  unfold State.collectLenfield
  dsimp only
  rw [apply_ite (fun t => State.withTrace t r), apply_ite (fun t => State.withTrace t r),
    apply_ite (fun t => State.withTrace t r), State.complete_withTrace, State.takeCause_withTrace]
  rfl

theorem State.collectText_withTrace (s : State) (b : Byte) (n : Nat) (r : List Event) :
    (s.withTrace r).collectText b n = (s.collectText b n).withTrace r := by
  unfold State.collectText
  rw [apply_ite (fun t => State.withTrace t r), apply_ite (fun t => State.withTrace t r),
    State.complete_withTrace, State.takeCause_withTrace]
  rfl

/-! ## Every operation leaves the trace alone -/

theorem execEngineStep_withTrace {s t : State} (h : execEngineStep s = .next t) (r : List Event) :
    execEngineStep (s.withTrace r) = .next (t.withTrace r) := by
  unfold execEngineStep State.examine at h ⊢
  split at h
  case isFalse => cases h
  case isTrue he =>
    rw [if_pos (show (s.withTrace r).engineEnabled = true from he)]
    split at h
    case isTrue => cases h
    case isFalse hl =>
      rw [if_neg (show ¬(!(s.withTrace r).frameCfgLegal) = true from hl)]
      split at h
      case isTrue hp =>
        rw [if_pos (show (s.withTrace r).scan + 1 ≤ (s.withTrace r).patLen from hp), State.matchPattern_withTrace]
        cases h
        rfl
      case isFalse hp =>
        rw [if_neg (show ¬(s.withTrace r).scan + 1 ≤ (s.withTrace r).patLen from hp),
          State.collectFixed_withTrace, State.collectLenfield_withTrace, State.collectText_withTrace,
          show (s.withTrace r).mode = s.mode from rfl]
        cases hm : s.mode <;> rw [hm] at h <;> cases h <;> rfl

theorem next_withTrace {s t : State} {r : List Event}
    (h : (Host.Outcome.next s : Host.Outcome State Fault Refusal) = .next t) :
    (Host.Outcome.next (s.withTrace r) : Host.Outcome State Fault Refusal) = .next (t.withTrace r) := by
  rw [Host.Outcome.next.inj h]

/-- Two choices under one condition agree if their branches do. -/
theorem ite_next {c : Prop} [Decidable c] {a b a' b' : Host.Outcome State Fault Refusal} {t t' : State}
    (ha : a = .next t → a' = .next t') (hb : b = .next t → b' = .next t') (h : (if c then a else b) = .next t) :
    (if c then a' else b') = .next t' := by
  split at h
  · rw [if_pos ‹c›, ha h]
  · rw [if_neg ‹¬c›, hb h]

/-- An operation's effect does not depend on the trace, and keeps it. -/
theorem exec_withTrace {i : Instr} {s t : State} (h : exec i s = .next t) (r : List Event) :
    exec i (s.withTrace r) = .next (t.withTrace r) := by
  have lock : ∀ {x : State}, (Host.Outcome.next (s.unlessEnabled x) : Host.Outcome State Fault Refusal) = .next t →
      (Host.Outcome.next ((s.withTrace r).unlessEnabled (x.withTrace r)) : Host.Outcome State Fault Refusal) =
        .next (t.withTrace r) := by
    intro x hx
    rw [State.unlessEnabled_withTrace, Host.Outcome.next.inj hx]
  cases i <;> simp only [exec] at h ⊢
  case engineStep => exact execEngineStep_withTrace h r
  case wrFrameCfg => exact lock h
  case wrPattern0 => exact lock h
  case wrPattern1 => exact lock h
  case wrTotalLen => exact lock h
  case wrMaxLen => exact lock h
  case wrLenCfg => exact lock h
  case rxByte b =>
    obtain ⟨hr, rfl⟩ := execRxByte_cases h
    exact if_pos hr
  case rxTimeout =>
    unfold execRxTimeout at h ⊢
    rw [State.takeCause_withTrace]
    exact ite_next next_withTrace next_withTrace h
  case rxFault =>
    unfold execRxFault at h ⊢
    rw [State.takeCause_withTrace]
    exact ite_next next_withTrace next_withTrace h
  case wrCtrl => exact ite_next (ite_next next_withTrace next_withTrace) (ite_next next_withTrace next_withTrace) h
  case cmdAccept => exact ite_next next_withTrace next_withTrace h
  case cmdReject =>
    unfold execCmdReject at h ⊢
    rw [State.takeCause_withTrace]
    exact ite_next next_withTrace (ite_next next_withTrace next_withTrace) h
  all_goals first
    | (cases h; rfl)
    | cases h

/-! ## Runs and traces -/

/-- One instant of a run, performed at the front of a trace. -/
theorem step_of_moves {s t : State} {e : Option Event} (h : s.moves e t) (r : List Event) :
    s.withTrace r = t.withTrace r ∨ ∃ e', step (s.withTrace (e' :: r)) = .next (t.withTrace r) := by
  cases e with
  | none => exact .inl (congrArg (State.withTrace · r) (show t = s from h).symm)
  | some e =>
    right
    cases e with
    | descriptor d => exact ⟨.descriptor d, exec_withTrace (show exec (decode d) (s.withTrace []) = .next t from h) r⟩
    | hardwareReset =>
      refine ⟨.hardwareReset, ?_⟩
      have ht : (s.withTrace []).hardwareReset = t := Host.Outcome.next.inj h
      rw [← ht]
      rfl
    | drain =>
      have hd : (if s.engineEnabled = true then exec .engineStep (s.withTrace [.drain])
          else .next (s.withTrace [])) = .next t := h
      by_cases he : s.engineEnabled = true
      · rw [if_pos he] at hd
        exact ⟨.descriptor engineDescriptor, exec_withTrace hd r⟩
      · rw [if_neg he] at hd
        refine ⟨.drain, ?_⟩
        have ht : s.withTrace [] = t := Host.Outcome.next.inj hd
        have hs : step (s.withTrace (.drain :: r)) =
            if s.engineEnabled = true then exec .engineStep (s.withTrace (.drain :: r))
            else .next (s.withTrace r) := rfl
        rw [hs, if_neg he, ← ht]
        rfl

/-- Every finite part of a run is the machine's run of some trace. -/
theorem runSteps_of_isRun {states : Nat → State} {events : Nat → Option Event} (h : IsRun states events) (n : Nat) :
    ∃ l : List Event, l.length ≤ n ∧
      runSteps l.length ((states 0).withTrace l) = .next ((states n).withTrace []) := by
  induction n generalizing states events with
  | zero => exact ⟨[], Nat.le_refl 0, rfl⟩
  | succ n ih =>
    obtain ⟨l, hl, hr⟩ := ih (states := fun k => states (k + 1)) (events := fun k => events (k + 1))
      fun k => h (k + 1)
    obtain hs | ⟨e, hs⟩ := step_of_moves (h 0) l
    · exact ⟨l, by omega, by rw [hs]; exact hr⟩
    · exact ⟨e :: l, by simpa using hl, by rw [List.length_cons, runSteps_succ hs]; exact hr⟩

end Sys2Proof.Machine
end

