-- ==== Sys2Proof/Tests/Slice0.lean ====
section
/-! SUPPORT. Tests of one step or one decoding each, with expected values from 95_test_vectors.md (its vector
is named) or worked out by hand from the rule named, and one witness per obligation that has hypotheses. -/
namespace Sys2Proof.Tests
open Sys2Proof.Machine

/-! ## Helpers -/

/-- The next state an operation answers, if it answers one. -/
def nextOf (o : Host.Outcome State Fault Refusal) : Option State :=
  match o with
  | .next t => some t
  | .fault _ => none
  | .refused _ => none

/-- The fault an operation answers, if it answers one. -/
def faultOf (o : Host.Outcome State Fault Refusal) : Option Fault :=
  match o with
  | .next _ => none
  | .fault f => some f
  | .refused _ => none

/-- The refusal an operation answers, if it answers one. -/
def refusalOf (o : Host.Outcome State Fault Refusal) : Option Refusal :=
  match o with
  | .next _ => none
  | .fault _ => none
  | .refused r => some r

/-- The STATUS value after an operation. -/
def statusAfter (o : Host.Outcome State Fault Refusal) : Option Word := (nextOf o).map State.statusWord

/-- The values an operation handed back. -/
def valuesOf (o : Host.Outcome State Fault Refusal) : Option (List Word) := (nextOf o).map State.reads

/-- The reference setting PMS-F (R253), not enabled. -/
def pmsF : State :=
  { State.reset with frameCfg := ⟨0#2, 2#4⟩, pattern0 := 0x4D42#32, totalLen := 32#16 }

/-- PMS-F enabled. -/
def pmsFOn : State := { pmsF with en := true }

/-- The reference setting PMS-L (R253), enabled. -/
def pmsLOn : State :=
  { State.reset with
    frameCfg := ⟨1#2, 2#4⟩, pattern0 := 0x4D42#32, maxLen := 32#16, lenCfg := ⟨2#8, 1#1, 4#8⟩, en := true }

/-- TXT8 of 95_test_vectors.md, enabled. -/
def txt8On : State :=
  { State.reset with frameCfg := ⟨2#2, 1#4⟩, pattern0 := 0x24#32, maxLen := 8#16, en := true }

/-- `s` holding the bytes `l`, of which `n` are examined. -/
def holding (s : State) (l : List Byte) (n : Nat) : State := { s with buf := l, scan := n }

/-- The string PMS32. -/
def pms32 : List Byte :=
  [0x42#8, 0x4D#8, 0x00#8, 0x1C#8, 0x00#8, 0x05#8, 0x00#8, 0x0A#8, 0x00#8, 0x08#8, 0x00#8, 0x05#8] ++
    List.replicate 18 0x00#8 ++ [0x00#8, 0xC7#8]

/-- The frame of vector E5. -/
def frame6 : List Byte := [0x42#8, 0x4D#8, 0x00#8, 0x02#8, 0x00#8, 0x91#8]

/-- The line of vector E7, `"$AB*03\r\n"`. -/
def line8 : List Byte := [0x24#8, 0x41#8, 0x42#8, 0x2A#8, 0x30#8, 0x33#8, 0x0D#8, 0x0A#8]

/-- PMS-L with the frame of E5 ready. -/
def readyState : State := { holding pmsLOn frame6 6 with ready := true }

/-- PMS-F faulted with no frame (vector S5). -/
def faultedState : State := { pmsFOn with fault := true, faultSeen := true, lastCause := .ioFault }

/-! ## Ill-formed operations are refused by the check -/

theorem test_wellFormed_reserved_codes :
    (List.range 16).filter (fun n => (Instr.cmdReserved (BitVec.ofNat 4 n)).wellFormed) =
      [0, 3, 4, 5, 6, 7, 8, 9, 10, 11, 12, 13, 14] := by decide
theorem test_illFormed_rdUnmapped_register : (Instr.rdUnmapped 0x02C#12).wellFormed = false := by decide
theorem test_illFormed_rdUnmapped_window : (Instr.rdUnmapped 0x7FC#12).wellFormed = false := by decide
theorem test_illFormed_rdUnmapped_misaligned : (Instr.rdUnmapped 0x031#12).wellFormed = false := by decide
theorem test_illFormed_wrUnmapped_register : (Instr.wrUnmapped 0x000#12 1#32).wellFormed = false := by decide
theorem test_illFormed_wrUnmapped_window : (Instr.wrUnmapped 0x400#12 1#32).wellFormed = false := by decide
theorem test_illFormed_wrUnmapped_misaligned : (Instr.wrUnmapped 0x802#12 1#32).wellFormed = false := by decide

/-! ## Decoding: words written from the fields of R81 to R84 and the comments of 95_test_vectors.md section 3 -/

theorem test_decode_reads :
    decode 0x000000000000#48 = .rdCtrl ∧ decode 0x000400000000#48 = .rdStatus ∧
    decode 0x000800000000#48 = .rdCmd ∧ decode 0x000C00000000#48 = .rdIrqEn ∧
    decode 0x001000000000#48 = .rdFrameCfg ∧ decode 0x001400000000#48 = .rdPattern0 ∧
    decode 0x001800000000#48 = .rdPattern1 ∧ decode 0x001C00000000#48 = .rdTotalLen ∧
    decode 0x002000000000#48 = .rdMaxLen ∧ decode 0x002400000000#48 = .rdLenCfg ∧
    decode 0x002800000000#48 = .rdFrameLen ∧ decode 0x002C00000000#48 = .rdCaps := by decide
theorem test_decode_window_and_unmapped :
    decode 0x044000000000#48 = .rdFrameWin 16#8 ∧ decode 0x07FC00000000#48 = .rdFrameWin 255#8 ∧
    decode 0x240400000009#48 = .wrFrameWin 1#8 9#32 ∧ decode 0x003000000000#48 = .rdUnmapped 0x030#12 ∧
    decode 0x280000001234#48 = .wrUnmapped 0x800#12 0x1234#32 := by decide
theorem test_decode_writes :
    decode 0x200000000001#48 = .wrCtrl 1#32 ∧ decode 0x200400000004#48 = .wrStatus 4#32 ∧
    decode 0x200C0000000A#48 = .wrIrqEn 0xA#32 ∧ decode 0x201000000020#48 = .wrFrameCfg 0x20#32 ∧
    decode 0x201400004D42#48 = .wrPattern0 0x4D42#32 ∧ decode 0x201800000007#48 = .wrPattern1 7#32 ∧
    decode 0x201C00000020#48 = .wrTotalLen 32#32 ∧ decode 0x202000000052#48 = .wrMaxLen 82#32 ∧
    decode 0x202400040102#48 = .wrLenCfg 0x40102#32 ∧ decode 0x202800000001#48 = .wrFrameLen 1#32 ∧
    decode 0x202C00000001#48 = .wrCaps 1#32 := by decide
theorem test_decode_commands :
    decode 0x200800000001#48 = .cmdAccept ∧ decode 0x200800000002#48 = .cmdReject ∧
    decode 0x20080000000F#48 = .cmdSoftReset ∧ decode 0x200800000003#48 = .cmdReserved 3#4 ∧
    decode 0x2008FFFFFFF1#48 = .cmdAccept := by decide
theorem test_decode_stream_and_engine :
    decode 0x400000000042#48 = .rxByte 0x42#8 ∧ decode 0x500000000000#48 = .rxTimeout ∧
    decode 0x600000000000#48 = .rxFault ∧ decode 0xC00000000000#48 = .engineStep := by decide
theorem test_decode_refused :
    decode 0x800000000000#48 = .refusedPort ∧ decode 0x700000000000#48 = .refusedStreamKind ∧
    decode 0x100000000000#48 = .refusedHostRsv ∧ decode 0x000100000000#48 = .refusedMisalignedA0 ∧
    decode 0x200300000000#48 = .refusedMisalignedA0 ∧ decode 0x000200000000#48 = .refusedMisalignedA1 := by
  decide
theorem test_decodeTableWord : decodeTableWord 48 0x200800000002 = some .cmdReject := by decide

/-! ## One step -/

/-- H1: reads after a hardware reset. -/
theorem test_reset_reads :
    valuesOf (exec .rdStatus State.reset) = some [0#32] ∧
    valuesOf (exec .rdCaps State.reset) = some [0x00080100#32] ∧
    valuesOf (exec .rdCtrl State.reset) = some [0#32] := by decide
/-- H2: the all-zero configuration is illegal. -/
theorem test_enable_illegal : statusAfter (exec (.wrCtrl 1#32) State.reset) = some 0x00000010#32 := by decide
/-- P1: PMS-F enables and then hunts. -/
theorem test_enable_legal : nextOf (exec (.wrCtrl 1#32) pmsF) = some pmsFOn ∧
    pmsFOn.statusWord = 0x00000100#32 ∧ pmsFOn.rxReady = true := by decide
/-- P5: disabling discards the candidate. -/
theorem test_disable :
    nextOf (exec (.wrCtrl 0#32) (holding pmsFOn [0x42#8, 0x4D#8, 0x00#8] 3)) = some pmsF := by decide
/-- The table of legal boundary cases under H10, BIN_FIXED rows. -/
theorem test_legal_fixed :
    ([3, 4, 256, 257].map fun n => State.legal { pmsF with totalLen := BitVec.ofNat 16 n }) =
      [false, true, true, false] := by decide
/-- The same table, BIN_LENFIELD and TEXT rows. -/
theorem test_legal_lenfield_and_text :
    ([(32, 1), (5, 2), (6, 2)].map fun p => State.legal
      { pmsLOn with maxLen := BitVec.ofNat 16 p.1, lenCfg := ⟨BitVec.ofNat 8 p.2, 1#1, 4#8⟩ }) =
      [false, false, true] ∧
    ([7, 8].map fun n => State.legal
      { txt8On with frameCfg := ⟨2#2, 3#4⟩, maxLen := BitVec.ofNat 16 n }) = [false, true] := by decide
/-- H3: FRAME_CFG stores illegal values and reads them back. -/
theorem test_frameCfg :
    (nextOf (exec (.wrFrameCfg 0xFF3#32) State.reset)).map State.frameCfgWord = some 0xF3#32 := by decide
/-- H4: locked while enabled. -/
theorem test_totalLen_locked : nextOf (exec (.wrTotalLen 40#32) pmsFOn) = some pmsFOn ∧
    valuesOf (exec .rdTotalLen pmsFOn) = some [32#32] := by decide
/-- P5: TOTAL_LEN while disabled. -/
theorem test_totalLen : valuesOf (exec .rdTotalLen { pmsF with totalLen := 40#16 }) = some [40#32] ∧
    nextOf (exec (.wrTotalLen 0x10028#32) pmsF) = some { pmsF with totalLen := 40#16 } := by decide
/-- P3: LEN_CFG and MAX_LEN as written. -/
theorem test_lenCfg :
    (nextOf (exec (.wrLenCfg 0x00040102#32) State.reset)).map State.lenCfg = some ⟨2#8, 1#1, 4#8⟩ ∧
    (nextOf (exec (.wrMaxLen 32#32) State.reset)).map State.maxLen = some 32#16 ∧
    valuesOf (exec .rdLenCfg pmsLOn) = some [0x00040102#32] ∧
    valuesOf (exec .rdMaxLen pmsLOn) = some [32#32] := by decide
/-- R28, R181, R183: the two pattern registers. -/
theorem test_patterns :
    (nextOf (exec (.wrPattern0 0x00504724#32) State.reset)).map
      (fun t => [t.patternByte 0, t.patternByte 1, t.patternByte 2]) =
        some [some 0x24#8, some 0x47#8, some 0x50#8] ∧
    (nextOf (exec (.wrPattern1 0x11223344#32) State.reset)).map (fun t => [t.patternByte 4, t.patternByte 7]) =
        some [some 0x44#8, some 0x11#8] ∧
    valuesOf (exec .rdPattern0 pmsF) = some [0x4D42#32] ∧ valuesOf (exec .rdPattern1 pmsF) = some [0#32] := by
  decide
/-- P4: IRQ_EN reads back, and its reserved bits read 0 (R177). -/
theorem test_irqEn : (nextOf (exec (.wrIrqEn 0xFFEA#32) pmsFOn)).map State.irqEnWord = some 0xA#32 ∧
    valuesOf (exec .rdIrqEn { pmsF with irqEn := 0xA#5 }) = some [0xA#32] := by decide
/-- H5 and H6: W1C. -/
theorem test_status_w1c :
    nextOf (exec (.wrStatus 0x4#32) { pmsF with invalid := true, resync := true }) =
      some { pmsF with resync := true } ∧
    nextOf (exec (.wrStatus 0x3#32) readyState) = some readyState := by decide
/-- H7, H8 and H9. -/
theorem test_constant_reads :
    valuesOf (exec .rdCmd readyState) = some [0#32] ∧
    valuesOf (exec (.rdUnmapped 0x030#12) readyState) = some [0#32] ∧
    valuesOf (exec .rdFrameLen pmsFOn) = some [0#32] ∧
    valuesOf (exec (.rdFrameWin 0#8) pmsFOn) = some [0#32] := by decide
/-- H8, H10 and M2. -/
theorem test_ignored_writes :
    nextOf (exec (.wrUnmapped 0x800#12 0x1234#32) readyState) = some readyState ∧
    nextOf (exec (.wrFrameLen 9#32) readyState) = some readyState ∧
    nextOf (exec (.wrCaps 9#32) readyState) = some readyState ∧
    nextOf (exec (.wrFrameWin 0#8 9#32) readyState) = some readyState ∧
    nextOf (exec (.cmdReserved 3#4) readyState) = some readyState := by decide
/-- E5: the ready frame's registers; window bytes 6 and 7 read 0. -/
theorem test_window :
    readyState.statusWord = 0x00000301#32 ∧ valuesOf (exec .rdFrameLen readyState) = some [6#32] ∧
    valuesOf (exec (.rdFrameWin 0#8) readyState) = some [0x02004D42#32] ∧
    valuesOf (exec (.rdFrameWin 1#8) readyState) = some [0x00009100#32] := by decide
/-- P2: FRAME_CFG of the GPS setting. -/
theorem test_rdFrameCfg :
    valuesOf (exec .rdFrameCfg { State.reset with frameCfg := ⟨2#2, 3#4⟩ }) = some [0x32#32] := by decide
/-- M5: ACCEPT with nothing pending. -/
theorem test_accept :
    statusAfter (exec .cmdAccept { holding pmsFOn pms32 32 with ready := true }) = some 0x00000100#32 := by
  decide
/-- M1: ACCEPT with no ready frame is ignored. -/
theorem test_accept_ignored : nextOf (exec .cmdAccept (holding pmsFOn pms32 9)) =
    some (holding pmsFOn pms32 9) := by decide
/-- M3's rule on a short frame: REJECT leaves all but the first byte pending (R202). -/
theorem test_reject : statusAfter (exec .cmdReject readyState) = some 0x00055104#32 := by decide
/-- M7: REJECT while faulted. -/
theorem test_reject_faulted :
    statusAfter (exec .cmdReject { readyState with fault := true, lastCause := .ioFault }) =
      some 0x00007402#32 := by decide
/-- M6: a soft reset keeps the configuration. -/
theorem test_softReset : nextOf (exec .cmdSoftReset faultedState) = some { pmsF with faultSeen := true } ∧
    faultedState.statusWord = 0x00007402#32 ∧ pmsF.statusWord = 0#32 := by decide
/-- S1: a byte arrives and is not yet examined. -/
theorem test_rxByte : nextOf (exec (.rxByte 0x42#8) pmsFOn) = some (holding pmsFOn [0x42#8] 0) ∧
    (holding pmsFOn [0x42#8] 0).statusWord = 0x00010100#32 ∧ (holding pmsFOn [0x42#8] 0).rxReady = false := by
  decide
/-- S8: no step while `rx_ready` = 0. -/
theorem test_rxByte_stuck : faultOf (exec (.rxByte 0x42#8) readyState) = some .rxByteNotEnabled := by decide
/-- S2 and S3. -/
theorem test_rxTimeout :
    statusAfter (exec .rxTimeout (holding pmsFOn [0x42#8, 0x4D#8, 0x00#8, 0x1C#8] 4)) = some 0x00006108#32 ∧
    statusAfter (exec .rxTimeout pmsFOn) = some 0x00006108#32 := by decide
/-- S4. -/
theorem test_rxTimeout_ignored : nextOf (exec .rxTimeout readyState) = some readyState := by decide
/-- S5. -/
theorem test_rxFault :
    nextOf (exec .rxFault (holding pmsFOn [0x42#8, 0x4D#8, 0x00#8, 0x1C#8] 4)) = some faultedState := by decide
/-- S6 (on E5's frame, with a pending byte dropped) and S7. -/
theorem test_rxFault_keeps_frame :
    statusAfter (exec .rxFault { readyState with buf := frame6 ++ [0x42#8] }) = some 0x00007403#32 ∧
    (nextOf (exec .rxFault { readyState with buf := frame6 ++ [0x42#8] })).map State.buf = some frame6 ∧
    nextOf (exec .rxFault State.reset) = some State.reset := by decide

/-! ## The engine -/

/-- E1: the first `42` matches and the second slides. -/
theorem test_engine_pattern :
    nextOf (exec .engineStep (holding pmsFOn [0x42#8, 0x42#8] 0)) = some (holding pmsFOn [0x42#8, 0x42#8] 1) ∧
    nextOf (exec .engineStep (holding pmsFOn [0x42#8, 0x42#8] 1)) = some (holding pmsFOn [0x42#8] 0) := by
  decide
/-- E10 and E9: the completing step of PMS32, and of PMS32 with its last byte 0xC8. -/
theorem test_engine_fixed :
    statusAfter (exec .engineStep (holding pmsFOn pms32 31)) = some 0x00000301#32 ∧
    statusAfter (exec .engineStep (holding pmsFOn (pms32.take 31 ++ [0xC8#8]) 31)) = some 0x001F1104#32 := by
  decide
/-- E3 and E4: a length above MAX_LEN and one below F + 2, at the step that reads the field. -/
theorem test_engine_length :
    (nextOf (exec .engineStep (holding pmsLOn [0x42#8, 0x4D#8, 0x42#8, 0x4D#8] 3))).map State.lastCause =
      some .length ∧
    (nextOf (exec .engineStep (holding pmsLOn [0x42#8, 0x4D#8, 0x00#8, 0x01#8] 3))).map State.lastCause =
      some .length := by decide
/-- E5: the shortest legal frame. -/
theorem test_engine_lenfield : nextOf (exec .engineStep (holding pmsLOn frame6 5)) = some readyState := by decide
/-- E7 and E6: LF at MAX_LEN, and another byte there. -/
theorem test_engine_text :
    statusAfter (exec .engineStep (holding txt8On line8 7)) = some 0x00000301#32 ∧
    statusAfter (exec .engineStep (holding txt8On
      [0x24#8, 0x41#8, 0x42#8, 0x43#8, 0x44#8, 0x45#8, 0x46#8, 0x47#8] 7)) = some 0x00074104#32 := by decide
/-- E8: a short line is FORMAT. -/
theorem test_engine_format :
    (nextOf (exec .engineStep (holding txt8On [0x24#8, 0x41#8, 0x42#8, 0x0A#8] 3))).map State.lastCause =
      some .format := by decide
/-- R120: no step with nothing pending. -/
theorem test_engine_stuck : faultOf (exec .engineStep pmsFOn) = some .engineStepNotEnabled := by decide
/-- I18: no step under a reserved mode, in a state no run reaches. -/
theorem test_engine_reserved :
    faultOf (exec .engineStep (holding { pmsFOn with frameCfg := ⟨3#2, 2#4⟩ } [0x42#8] 0)) =
      some .frameCfgReserved := by decide

/-! ## Checksums -/

/-- K1, K2 and K4. -/
theorem test_add16 : validate .add16 pms32 = .valid ∧
    validate .add16 (pms32.take 30 ++ [0x00#8, 0xC8#8]) = .invalid .checksum ∧
    validate .add16 (pms32.take 30 ++ [0xC7#8, 0x00#8]) = .invalid .checksum := by decide
/-- K10, E7, and a wrong digit. -/
theorem test_xor8 :
    validate .xor8 [0x24#8, 0x2A#8, 0x30#8, 0x30#8, 0x0D#8, 0x0A#8] = .valid ∧ validate .xor8 line8 = .valid ∧
    validate .xor8 [0x24#8, 0x41#8, 0x42#8, 0x2A#8, 0x30#8, 0x34#8, 0x0D#8, 0x0A#8] = .invalid .checksum := by
  decide
/-- K8, K9, E16 and E17: a non-digit, a lower-case digit, no CR, a second `*`. -/
theorem test_xor8_format :
    validate .xor8 [0x24#8, 0x41#8, 0x42#8, 0x2A#8, 0x30#8, 0x67#8, 0x0D#8, 0x0A#8] = .invalid .format ∧
    validate .xor8 [0x24#8, 0x2A#8, 0x34#8, 0x65#8, 0x0D#8, 0x0A#8] = .invalid .format ∧
    validate .xor8 [0x24#8, 0x41#8, 0x42#8, 0x2A#8, 0x30#8, 0x33#8, 0x0A#8] = .invalid .format ∧
    validate .xor8 [0x24#8, 0x41#8, 0x2A#8, 0x42#8, 0x2A#8, 0x30#8, 0x30#8, 0x0D#8, 0x0A#8] =
      .invalid .format := by decide

/-! ## Refusals, resets, interrupt and steps -/

theorem test_refused :
    refusalOf (exec .refusedPort State.reset) = some .reservedPort ∧
    refusalOf (exec .refusedStreamKind State.reset) = some .reservedStreamKind ∧
    refusalOf (exec .refusedHostRsv State.reset) = some .reservedHostBit ∧
    refusalOf (exec .refusedMisalignedA0 State.reset) = some .misalignedAddr0 ∧
    refusalOf (exec .refusedMisalignedA1 State.reset) = some .misalignedAddr1 := by decide
/-- Q1 and Q4. -/
theorem test_irq : State.irq { readyState with irqEn := 0x1#5 } = true ∧ readyState.irq = false ∧
    State.irq { pmsFOn with irqEn := 0xA#5, resync := true } = true := by decide
/-- The placed descriptor is the one the next step performs. -/
theorem test_withFetchWord :
    nextOf (step (State.reset.withFetchWord 48 0x201000000020)) =
      some { State.reset with frameCfg := ⟨0#2, 2#4⟩ } := by decide
/-- R250. -/
theorem test_hardwareReset :
    nextOf (step { readyState with trace := [.hardwareReset] }) = some State.reset := by decide
/-- R92: `DRAIN` performs a step, and ends when none is enabled. -/
theorem test_drain :
    nextOf (step { holding pmsFOn [0x42#8] 0 with trace := [.drain] }) =
      some { holding pmsFOn [0x42#8] 1 with trace := [.drain] } ∧
    nextOf (step { holding pmsFOn [0x42#8] 1 with trace := [.drain] }) = some (holding pmsFOn [0x42#8] 1) := by
  decide
/-- R91 and R92: lines of the text form. -/
theorem test_readLine :
    (readLine "WR FRAME_CFG, 0x20 ; c".toList).map AsmLine.events = some [.descriptor 0x201000000020#48] ∧
    (readLine "RD WIN[7] -> 0xC700_0000".toList) = some (.rd 0x41C#12 (some 0xC7000000#32)) ∧
    (readLine "RXS 42 \"$\\r\"".toList) = some (.rxs [0x42#8, 0x24#8, 0x0D#8]) := by decide
/-- The model's choices of log 25: another escape and a character that is not ASCII are unreadable. -/
theorem test_readLine_unreadable :
    readLine "RXS \"\\t\"".toList = none ∧ readLine "RXS \"é\"".toList = none := by decide

/-! ## Invariant witnesses -/

/-- An enabled, waiting block meets the invariant. -/
theorem inv_pmsFOn : pmsFOn.Inv :=
  State.Inv.idle (by decide) rfl rfl rfl (fun _ => by decide) (fun h => by cases h)

/-- PMS-F enabled with one byte pending. -/
def pendingState : State := holding pmsFOn [0x42#8] 0

theorem inv_pendingState : pendingState.Inv where
  params_legal := by decide
  scan_le := by decide
  buf_le := by decide
  enabled_legal := fun _ => by decide
  idle_empty := fun h => by cases h
  fault_quiet := fun h => by cases h
  fault_cause := fun h => by cases h
  candidate_open := fun _ _ _ => State.open_nil (by decide)
  ready_frame := fun h => by cases h

theorem inv_faultedState : faultedState.Inv :=
  State.Inv.idle (by decide) rfl rfl rfl (fun _ => by decide) (fun _ => ⟨rfl, rfl⟩)

/-- The frame of E5 is a frame, said without the engine. -/
theorem framesAt_readyState : readyState.framesAt readyState.buf readyState.scan := by
  refine ⟨by decide, ?_, ?_, by decide⟩
  · intro k hk hp
    have : k < 2 := hp
    obtain rfl | rfl : k = 0 ∨ k = 1 := by omega
    · rfl
    · rfl
  · exact ⟨by decide, ⟨by decide, by decide⟩, by decide⟩

theorem inv_readyState : readyState.Inv where
  params_legal := by decide
  scan_le := by decide
  buf_le := by decide
  enabled_legal := fun _ => by decide
  idle_empty := fun h => by cases h
  fault_quiet := fun h => by cases h
  fault_cause := fun h => by cases h
  candidate_open := fun _ _ h => by cases h
  ready_frame := fun _ => framesAt_readyState

/-! ## Reachable states, by short runs: P = 1, pattern 00, TOTAL_LEN = 3, so `00 00 00` is a frame -/

theorem reachable_run {k : Nat} {s t : State} (h : Reachable s) (hr : runSteps k s = .next t) : Reachable t := by
  induction k generalizing s with
  | zero =>
    have : s = t := Host.Outcome.next.inj (show (Host.Outcome.next s : Host.Outcome State Fault Refusal) = .next t from hr)
    exact this ▸ h
  | succ k ih =>
    rw [runSteps] at hr
    split at hr
    · rename_i u hu
      exact ih (.step s u h hu) hr
    · cases hr
    · cases hr

/-- P = 1, pattern 00, TOTAL_LEN = 3. -/
def tiny : State := { State.reset with frameCfg := ⟨0#2, 1#4⟩, totalLen := 3#16, en := true }

/-- The descriptors that configure and enable `tiny`, then receive `n` bytes 00, each examined. -/
def tinyTrace (n : Nat) (rest : List Event) : List Event :=
  [.descriptor 0x201000000010#48, .descriptor 0x201C00000003#48, .descriptor 0x200000000001#48] ++
    (List.replicate n [Event.descriptor 0x400000000000#48, .descriptor 0xC00000000000#48]).flatten ++ rest

theorem reachable_idle : Reachable State.reset := .reset Params.default (by decide) []

theorem reachable_collecting : Reachable (holding tiny [0x00#8, 0x00#8] 2) :=
  reachable_run (k := 7) (.reset Params.default (by decide) (tinyTrace 2 [])) rfl

theorem reachable_ready : Reachable { holding tiny [0x00#8, 0x00#8, 0x00#8] 3 with ready := true } :=
  reachable_run (k := 9) (.reset Params.default (by decide) (tinyTrace 3 [])) rfl

/-- `tiny`, faulted, with a soft reset to come. -/
def tinyFaulted : State :=
  { tiny with fault := true, faultSeen := true, lastCause := .ioFault, trace := [.descriptor 0x20080000000F#48] }

/-- `tiny`, about to be faulted. -/
def tinyBefore : State :=
  { tiny with trace := [.descriptor 0x600000000000#48, .descriptor 0x20080000000F#48] }

theorem reachable_before : Reachable tinyBefore :=
  reachable_run (k := 3)
    (.reset Params.default (by decide) (tinyTrace 0 [.descriptor 0x600000000000#48, .descriptor 0x20080000000F#48]))
    rfl

theorem reachable_faulted : Reachable tinyFaulted :=
  reachable_run (k := 4)
    (.reset Params.default (by decide) (tinyTrace 0 [.descriptor 0x600000000000#48, .descriptor 0x20080000000F#48]))
    rfl

/-! ## Witnesses: for each obligation with hypotheses, values that meet them, clause by clause -/

theorem witness_DecodeOfEncodeIsTheOperation :
    (Instr.cmdReserved 0#4).wellFormed = true ∧ (Instr.cmdReserved 0xE#4).wellFormed = true ∧
    (Instr.rdUnmapped 0x030#12).wellFormed = true ∧ (Instr.rdUnmapped 0x3FC#12).wellFormed = true ∧
    (Instr.wrUnmapped 0x800#12 1#32).wellFormed = true ∧ (Instr.wrUnmapped 0xFFC#12 1#32).wellFormed = true ∧
    (Instr.rdFrameWin 255#8).wellFormed = true ∧ (Instr.rxByte 0xFF#8).wellFormed = true := by decide
theorem witness_DecodingTakesTheLowestMatchingRow :
    ∃ r ∈ opcodeTable, r.accepts 0x200800000001#48 = true ∧ r.priority = 2 :=
  ⟨⟨"CMD_RESERVED", 0x200800000000#48, 0xFFFF00000000#48, 2⟩, by decide, by decide, rfl⟩
theorem witness_OperandsAreTheNamedBits :
    decode 0x4000000000FF#48 = .rxByte 0xFF#8 ∧ decode 0x2000FFFFFFFF#48 = .wrCtrl 0xFFFFFFFF#32 ∧
    decode 0x20080000000E#48 = .cmdReserved 0xE#4 ∧ decode 0x040000000000#48 = .rdFrameWin 0#8 ∧
    decode 0x27FC00000001#48 = .wrFrameWin 0xFF#8 1#32 ∧ decode 0x003000000000#48 = .rdUnmapped 0x030#12 ∧
    decode 0x2FFC00000001#48 = .wrUnmapped 0xFFC#12 1#32 := by decide
theorem witness_IgnoredBitsDoNotMatter :
    ((0x000400000000#48).toNat / 2 ^ 32 = (0x0004FFFFFFFF#48).toNat / 2 ^ 32 ∧
      (0x000400000000#48).getLsbD 45 = false ∧ portOf 0x000400000000#48 = 0#2) ∧
    (portOf 0x400000000042#48 = 1#2 ∧ (0x400000000042#48).toNat / 2 ^ 44 = (0x4FFFFFFFFF42#48).toNat / 2 ^ 44 ∧
      (0x400000000042#48).toNat % 256 = (0x4FFFFFFFFF42#48).toNat % 256) ∧
    (portOf 0xC00000000000#48 = 3#2 ∧ portOf 0xFFFFFFFFFFFF#48 = 3#2) ∧
    ((0x200800000001#48).toNat / 2 ^ 32 = 0x2008 ∧ (0x2008FFFFFFF1#48).toNat / 2 ^ 32 = 0x2008 ∧
      (0x200800000001#48).toNat % 16 = (0x2008FFFFFFF1#48).toNat % 16) := by decide
theorem witness_StepPerformsTheDecodedDescriptor :
    (State.reset.withFetchWord 48 0xC00000000000).trace = .descriptor 0xC00000000000#48 :: [] := by decide
theorem witness_RefusedDescriptorsHaveNoStep :
    (State.reset.withFetchWord 48 0x800000000000).trace = .descriptor 0x800000000000#48 :: [] ∧
    (0x800000000000#48).toNat / 2 ^ 46 = 2 ∧ (0xBFFFFFFFFFFF#48).toNat / 2 ^ 46 = 2 ∧
    (0x700000000000#48).toNat / 2 ^ 44 = 7 ∧ (0x7FFFFFFFFFFF#48).toNat / 2 ^ 44 = 7 ∧
    ((0x3FFFFFFFFFFF#48).toNat / 2 ^ 46 = 0 ∧ (0x3FFFFFFFFFFF#48).getLsbD 44 = true) ∧
    ((0x2FFF00000000#48).toNat / 2 ^ 46 = 0 ∧ (0x2FFF00000000#48).getLsbD 44 = false ∧
      (0x2FFF00000000#48).getLsbD 32 = true) ∧
    ((0x000200000000#48).toNat / 2 ^ 46 = 0 ∧ (0x000200000000#48).getLsbD 44 = false ∧
      (0x000200000000#48).getLsbD 33 = true ∧ (0x000200000000#48).getLsbD 32 = false) := by decide
theorem witness_HardwareResetStepResetsEverything :
    State.trace { readyState with trace := [.hardwareReset] } = .hardwareReset :: [] := by decide
theorem witness_HardwareResetKeepsTheModelsOwnFields :
    State.trace { readyState with trace := [.hardwareReset] } = .hardwareReset :: [] ∧
    step { readyState with trace := [.hardwareReset] } = .next State.reset := ⟨rfl, rfl⟩
theorem witness_DrainAndTheEndOfTheTrace :
    State.reset.trace = [] ∧
    (State.trace { pendingState with trace := [.drain] } = .drain :: [] ∧
      State.engineEnabled { pendingState with trace := [.drain] } = true) ∧
    (State.trace { pmsFOn with trace := [.drain] } = .drain :: [] ∧
      State.engineEnabled { pmsFOn with trace := [.drain] } = false) := by decide
theorem witness_ControlAndStatusReads : readyState.Inv := inv_readyState
theorem witness_FrameLengthAndCapsReads :
    pmsFOn.ready = false ∧ (readyState.Inv ∧ readyState.ready = true) ∧ readyState.params.legal = true ∧
      Params.legal ⟨8⟩ = true ∧ Params.legal ⟨1024⟩ = true :=
  ⟨rfl, ⟨inv_readyState, rfl⟩, by decide, by decide, by decide⟩
theorem witness_WindowReadsShowTheReadyFrame :
    (readyState.ready = true ∧ 4 * (1#8).toNat + 1 < readyState.scan ∧
      readyState.buf[4 * (1#8).toNat + 1]? = some 0x91#8) ∧
    (0x400#12).toNat = 0x400 + 4 * (0#8).toNat ∧ (0x7FC#12).toNat = 0x400 + 4 * (255#8).toNat ∧
    (¬(readyState.ready = true ∧ 4 * (1#8).toNat + 2 < readyState.scan)) ∧
    ¬(pmsFOn.ready = true ∧ 4 * (255#8).toNat + 3 < pmsFOn.scan) := by decide
theorem witness_AlignedReadsFollowTheRegisterMap :
    (0x000#12).toNat % 4 = 0 ∧ (0x7FC#12).toNat % 4 = 0 ∧ (0xFFC#12).toNat % 4 = 0 := by decide
theorem witness_UnmappedOffsetsReadZeroAndIgnoreWrites :
    ∀ addr ∈ [0x030#12, 0x3FC#12, 0x800#12, 0xFFC#12], addr.toNat % 4 = 0 ∧
      ((0x030 ≤ addr.toNat ∧ addr.toNat ≤ 0x3FC) ∨ (0x800 ≤ addr.toNat ∧ addr.toNat ≤ 0xFFC)) := by decide
theorem witness_StepsThatHandBackAValueChangeNothingElse :
    exec .rdCaps State.reset = .next { State.reset with reads := [0x00080100#32] } ∧
      [0x00080100#32] ≠ State.reset.reads := ⟨rfl, by decide⟩
/-- E5's frame ready, with one byte pending behind it. -/
def readyPending : State := { readyState with buf := frame6 ++ [0x42#8] }

theorem witness_UnvalidatedBytesAreInvisibleToTheHost :
    ([0x43#8].length = pendingState.buf.length ∧
      (pendingState.ready = true → [0x43#8].take pendingState.scan = pendingState.buf.take pendingState.scan) ∧
      exec .rdStatus pendingState = .next { pendingState with reads := [0x00010100#32] } ∧
      [0x00010100#32] ≠ pendingState.reads) ∧
    (frame6 ++ [0x43#8]).length = readyPending.buf.length ∧
      (readyPending.ready = true →
        (frame6 ++ [0x43#8]).take readyPending.scan = readyPending.buf.take readyPending.scan) ∧
      exec (.rdFrameWin 1#8) readyPending = .next { readyPending with reads := [0x00009100#32] } ∧
      [0x00009100#32] ≠ readyPending.reads :=
  ⟨⟨rfl, by decide, rfl, by decide⟩, by decide, by decide, rfl, by decide⟩
theorem witness_CtrlWriteEnablesAborts :
    (pmsF.en = false ∧ (1#32).getLsbD 0 = true ∧ pmsF.legal = true) ∧
    (State.reset.en = false ∧ (1#32).getLsbD 0 = true ∧ State.reset.legal = false) ∧
    (pmsFOn.en = true ∧ (0#32).getLsbD 0 = false) ∧ pmsFOn.en = (1#32).getLsbD 0 := by decide
theorem witness_ConfigurationWritesStoreTheirFieldsOrAreLocked : pmsF.en = false ∧ pmsFOn.en = true :=
  ⟨rfl, rfl⟩
theorem witness_ConfigurationReadsBackWhatWasWritten :
    pmsF.en = false ∧ exec (.wrFrameCfg 0x21#32) pmsF = .next { pmsF with frameCfg := ⟨1#2, 2#4⟩ } ∧
    exec (.wrPattern0 7#32) pmsF = .next { pmsF with pattern0 := 7#32 } ∧
    exec (.wrPattern1 7#32) pmsF = .next { pmsF with pattern1 := 7#32 } ∧
    exec (.wrTotalLen 7#32) pmsF = .next { pmsF with totalLen := 7#16 } ∧
    exec (.wrMaxLen 7#32) pmsF = .next { pmsF with maxLen := 7#16 } ∧
    exec (.wrLenCfg 0x40102#32) pmsF = .next { pmsF with lenCfg := ⟨2#8, 1#1, 4#8⟩ } ∧
    exec (.wrIrqEn 7#32) pmsF = .next { pmsF with irqEn := 7#5 } := ⟨rfl, rfl, rfl, rfl, rfl, rfl, rfl, rfl⟩
theorem witness_IgnoredWritesChangeNothing :
    ∀ code ∈ [0x0#4, 0x3#4, 0xE#4], code ≠ 0x1#4 ∧ code ≠ 0x2#4 ∧ code ≠ 0xF#4 ∧
      (0#28 ++ code : Word).extractLsb' 0 4 = code := by decide
theorem witness_ConfigurationIsConstantWhileEnabled :
    exec (.wrTotalLen 40#32) pmsFOn = .next pmsFOn ∧ pmsFOn.en = true := ⟨rfl, rfl⟩
theorem witness_AcceptReleasesTheFrame :
    readyState.ready = true ∧ pmsFOn.ready = false ∧ (0xFFFFFFF1#32).extractLsb' 0 4 = 0x1#4 := by decide
theorem witness_RejectResumesAtTheSecondByte :
    (readyState.ready = true ∧ readyState.fault = false) ∧
    (State.ready { readyState with fault := true } = true ∧ State.fault { readyState with fault := true } = true) ∧
    pmsFOn.ready = false ∧ (0xFFFFFFF2#32).extractLsb' 0 4 = 0x2#4 := by decide
theorem witness_SoftResetKeepsTheConfiguration : (0xFFFFFFFF#32).extractLsb' 0 4 = 0xF#4 := by decide
theorem witness_ReceivedByteIsAppended :
    (pmsFOn.en = true ∧ pmsFOn.fault = false ∧ pmsFOn.ready = false ∧ pmsFOn.scan = pmsFOn.buf.length ∧
      pmsFOn.Inv) ∧
    ((0x4FFFFFFFFF42#48).toNat / 2 ^ 44 = 4 ∧ (0x4FFFFFFFFF42#48).toNat % 256 = (0x42#8).toNat) ∧
    ¬(readyState.en = true ∧ readyState.fault = false ∧ readyState.ready = false ∧
      readyState.scan = readyState.buf.length) := 
  ⟨⟨rfl, rfl, rfl, rfl, inv_pmsFOn⟩, by decide, by decide⟩
theorem witness_TimeoutDiscardsTheCandidate :
    (0x5FFFFFFFFFFF#48).toNat / 2 ^ 44 = 5 ∧
    (pmsFOn.en = true ∧ pmsFOn.fault = false ∧ pmsFOn.ready = false ∧ pmsFOn.scan = pmsFOn.buf.length) ∧
    ¬(pendingState.en = true ∧ pendingState.fault = false ∧ pendingState.ready = false ∧
      pendingState.scan = pendingState.buf.length) := by decide
theorem witness_IoFaultKeepsOnlyTheReadyFrame :
    (0x6FFFFFFFFFFF#48).toNat / 2 ^ 44 = 6 ∧ faultedState.fault = true ∧
    (readyState.en = true ∧ readyState.fault = false ∧ readyState.ready = true) ∧
    (pmsFOn.en = true ∧ pmsFOn.fault = false ∧ pmsFOn.ready = false) ∧
    ¬(State.reset.en = true ∧ State.reset.fault = false) ∧
    ¬(faultedState.en = true ∧ faultedState.fault = false) := by decide
theorem witness_PatternPhaseMatchesOrSlides :
    (pendingState.engineEnabled = true ∧ pendingState.frameCfgLegal = true ∧
      pendingState.buf[pendingState.scan]? = some 0x42#8 ∧
      pendingState.scan + 1 ≤ pendingState.frameCfg.patLen.toNat ∧
      pendingState.patternByte pendingState.scan = some 0x42#8) ∧
    ((holding pmsFOn [0x42#8, 0x4D#8] 1).engineEnabled = true ∧
      (holding pmsFOn [0x42#8, 0x4D#8] 1).patternByte 1 = some 0x4D#8 ∧
      1 + 1 = (holding pmsFOn [0x42#8, 0x4D#8] 1).frameCfg.patLen.toNat) ∧
    ((holding pmsFOn [0x42#8, 0x42#8] 1).engineEnabled = true ∧
      (holding pmsFOn [0x42#8, 0x42#8] 1).buf[1]? = some 0x42#8 ∧
      1 + 1 ≤ (holding pmsFOn [0x42#8, 0x42#8] 1).frameCfg.patLen.toNat ∧
      (holding pmsFOn [0x42#8, 0x42#8] 1).patternByte 1 ≠ some 0x42#8) := by decide
theorem witness_PatternBytesAreTheRegisterBytes : 0 < 4 ∧ 3 < 4 ∧ (4 ≤ 4 ∧ 4 < 8) ∧ (4 ≤ 7 ∧ 7 < 8) := by decide

/-- The premises that the collection statements share, with a mode. -/
def collects (s : State) (m : BitVec 2) : Bool :=
  s.engineEnabled && s.frameCfgLegal && decide (s.frameCfg.mode = m) &&
    decide (s.frameCfg.patLen.toNat < s.scan + 1)

theorem witness_FixedLengthCollection :
    (collects (holding pmsFOn pms32 2) 0#2 = true ∧ 2 + 1 ≠ pmsFOn.totalLen.toNat) ∧
    (collects (holding pmsFOn pms32 31) 0#2 = true ∧ 31 + 1 = pmsFOn.totalLen.toNat ∧
      validate .add16 (pms32.take 32) = .valid) ∧
    (collects (holding pmsFOn (pms32.take 31 ++ [0xC8#8]) 31) 0#2 = true ∧
      validate .add16 (pms32.take 31 ++ [0xC8#8]) ≠ .valid) := by decide
theorem witness_LengthFieldCollection :
    (collects (holding pmsLOn frame6 2) 1#2 = true ∧ 2 + 1 < 2 + 1 + 1) ∧
    -- T = 5 < F + 2 = 6, and T = 16977 > 32
    (collects (holding pmsLOn [0x42#8, 0x4D#8, 0x00#8, 0x01#8] 3) 1#2 = true ∧
      (5 = (0x00#8).toNat * 256 + (0x01#8).toNat + pmsLOn.lenCfg.lenBias.toNat ∧ 5 < 2 + 1 + 1 + 2)) ∧
    (collects (holding pmsLOn [0x42#8, 0x4D#8, 0x42#8, 0x4D#8] 3) 1#2 = true ∧
      (16977 = (0x42#8).toNat * 256 + (0x4D#8).toNat + pmsLOn.lenCfg.lenBias.toNat ∧ 32 < 16977)) ∧
    -- T = 6: short of it, at it and valid, at it and invalid
    (collects (holding pmsLOn frame6 3) 1#2 = true ∧ frame6[2]? = some 0x00#8 ∧ frame6[3]? = some 0x02#8 ∧
      6 = (0x00#8).toNat * 256 + (0x02#8).toNat + pmsLOn.lenCfg.lenBias.toNat ∧ 2 + 1 + 1 + 2 ≤ 6 ∧
      6 ≤ pmsLOn.maxLen.toNat ∧ 3 + 1 ≠ 6) ∧
    (collects (holding pmsLOn frame6 5) 1#2 = true ∧ 5 + 1 = 6 ∧ validate .add16 (frame6.take 6) = .valid) ∧
    (collects (holding pmsLOn (frame6.take 5 ++ [0x90#8]) 5) 1#2 = true ∧
      validate .add16 (frame6.take 5 ++ [0x90#8]) ≠ .valid) ∧
    -- a one-byte field
    collects (holding { pmsLOn with lenCfg := ⟨2#8, 0#1, 4#8⟩ } [0x42#8, 0x4D#8, 0x02#8] 2) 1#2 = true := by
  decide
theorem witness_TextLineCollection :
    (collects (holding txt8On line8 1) 2#2 = true ∧ line8[1]? = some 0x41#8 ∧ 1 + 1 < txt8On.maxLen.toNat) ∧
    (collects (holding txt8On (List.replicate 8 0x41#8) 7) 2#2 = true ∧ txt8On.maxLen.toNat ≤ 7 + 1) ∧
    (collects (holding txt8On line8 7) 2#2 = true ∧ line8[7]? = some 0x0A#8 ∧
      validate .xor8 (line8.take 8) = .valid) ∧
    (collects (holding txt8On [0x24#8, 0x41#8, 0x42#8, 0x0A#8] 3) 2#2 = true ∧
      validate .xor8 [0x24#8, 0x41#8, 0x42#8, 0x0A#8] = .invalid .format) := by decide
theorem witness_EngineStepNeedsAPendingByte :
    pmsFOn.engineEnabled = false ∧
    (State.engineEnabled { pendingState with frameCfg := ⟨3#2, 2#4⟩ } = true ∧
      State.frameCfgLegal { pendingState with frameCfg := ⟨3#2, 2#4⟩ } = false) := by decide
theorem witness_TextVerdict : line8.getLast? = some 0x0A#8 := by decide
theorem witness_OneWrongByteIsNeverValid :
    pmsFOn.legal = true ∧ pmsFOn.beginsPattern pms32 ∧ pmsFOn.beginsPattern (pms32.set 5 0x06#8) ∧
    (pms32.set 5 0x06#8).length = pms32.length ∧ 2 ≤ pms32.length ∧ 5 < pms32.length ∧
    (∀ k, k ≠ 5 → (pms32.set 5 0x06#8)[k]? = pms32[k]?) ∧ (pms32.set 5 0x06#8)[5]? ≠ pms32[5]? ∧
    (pmsFOn.mode = .text → 5 + 1 < pms32.length) ∧ validate pmsFOn.algorithm pms32 = .valid := by
  have two : ∀ l : List Byte, l[0]? = some 0x42#8 → l[1]? = some 0x4D#8 → pmsFOn.beginsPattern l := by
    intro l h0 h1 k _ hp
    have : k < 2 := hp
    obtain rfl | rfl : k = 0 ∨ k = 1 := by omega
    · exact h0
    · exact h1
  exact ⟨by decide, two _ (by decide) (by decide), two _ (by decide) (by decide), by decide, by decide, by decide,
    fun k hk => List.getElem?_set_ne (Ne.symm hk), by decide, by decide, by decide⟩
theorem witness_OneWrongByteIsNeverValid_text :
    txt8On.legal = true ∧ txt8On.beginsPattern line8 ∧ txt8On.beginsPattern (line8.set 6 0x34#8) ∧
    (line8.set 6 0x34#8).length = line8.length ∧ 2 ≤ line8.length ∧ 6 < line8.length ∧
    (∀ k, k ≠ 6 → (line8.set 6 0x34#8)[k]? = line8[k]?) ∧ (line8.set 6 0x34#8)[6]? ≠ line8[6]? ∧
    (txt8On.mode = .text → 6 + 1 < line8.length) ∧ validate txt8On.algorithm line8 = .valid := by
  have one : ∀ l : List Byte, l[0]? = some 0x24#8 → txt8On.beginsPattern l := by
    intro l h0 k _ hp
    have : k < 1 := hp
    obtain rfl : k = 0 := by omega
    exact h0
  exact ⟨by decide, one _ (by decide), one _ (by decide), by decide, by decide, by decide,
    fun k hk => List.getElem?_set_ne (Ne.symm hk), by decide, by decide, by decide⟩
theorem witness_InterruptLevel : exec (.wrIrqEn 0#32) readyState = .next { readyState with irqEn := 0#5 } := rfl
theorem witness_InterruptSourcesClearOnlyAsListed :
    (exec .cmdAccept readyState = .next pmsLOn ∧ readyState.ready = true ∧ pmsLOn.ready = false) ∧
    (exec .cmdSoftReset faultedState = .next { pmsF with faultSeen := true } ∧ faultedState.fault = true ∧
      State.fault { pmsF with faultSeen := true } = false) ∧
    (exec (.wrStatus 0x1C#32) { pmsF with invalid := true, resync := true, cfgErr := true } = .next pmsF ∧
      pmsF.invalid = false ∧ pmsF.resync = false ∧ pmsF.cfgErr = false) := by
  refine ⟨⟨rfl, ?_⟩, ⟨rfl, ?_⟩, ⟨rfl, ?_⟩⟩ <;> decide
theorem witness_CausesAreRecordedOnlyAsListed :
    exec .rxTimeout pmsFOn = .next { pmsFOn with resync := true, lastCause := .timeout } ∧
      Cause.timeout ≠ pmsFOn.lastCause := ⟨rfl, by decide⟩
theorem witness_BitsRiseOnlyOnTheirEvents :
    (exec (.wrCtrl 1#32) pmsF = .next pmsFOn ∧ pmsF.en = false ∧ pmsFOn.en = true) ∧
    (exec .cmdReject readyState =
        .next { holding pmsLOn (frame6.drop 1) 0 with invalid := true, lastCause := .reject } ∧
      readyState.invalid = false) ∧
    (exec .rxTimeout pmsFOn = .next { pmsFOn with resync := true, lastCause := .timeout } ∧
      pmsFOn.resync = false) ∧
    (exec (.wrCtrl 1#32) State.reset = .next { State.reset with cfgErr := true } ∧ State.reset.cfgErr = false) ∧
    (exec .rxFault pmsFOn = .next faultedState ∧ pmsFOn.fault = false ∧ faultedState.fault = true) := by
  refine ⟨⟨rfl, ?_⟩, ⟨rfl, ?_⟩, ⟨rfl, ?_⟩, ⟨rfl, ?_⟩, ⟨rfl, ?_⟩⟩ <;> decide
theorem witness_ReadyFrameIsStable :
    readyState.ready = true ∧ exec (.wrTotalLen 1#32) readyState = .next readyState ∧
      ∀ data, Instr.wrTotalLen 1#32 = .wrCtrl data → data.getLsbD 0 = true :=
  ⟨rfl, rfl, fun _ h => by cases h⟩
theorem witness_StreamMovesOnlyAsListed : exec (.rxByte 0x42#8) pmsFOn = .next pendingState := rfl
theorem witness_OperationsCompleteExactlyWhenEnabled : pendingState.Inv := inv_pendingState
theorem witness_ResetMeetsTheInvariant : Params.legal ⟨8⟩ = true ∧ Params.legal ⟨1024⟩ = true := by decide
theorem witness_StepKeepsTheInvariant :
    pendingState.Inv ∧ step pendingState = .next pendingState := ⟨inv_pendingState, rfl⟩
theorem witness_ReachableStatesKeepTheBufferRules :
    (∃ s, Reachable s ∧ s.en = false) ∧
    (∃ s, Reachable s ∧ s.en = true ∧ s.fault = false ∧ s.ready = false ∧ 0 < s.scan ∧ 0 < s.frameCfg.patLen.toNat) ∧
    (∃ s, Reachable s ∧ s.rxReady = true) ∧ (∃ s, Reachable s ∧ s.fault = true ∧ s.ready = false) ∧ (∃ s, Reachable s ∧ s.ready = true) :=
  ⟨⟨_, reachable_idle, rfl⟩, ⟨_, reachable_collecting, rfl, rfl, rfl, by decide, by decide⟩,
    ⟨_, reachable_collecting, by decide⟩, ⟨_, reachable_faulted, rfl, rfl⟩, ⟨_, reachable_ready, rfl⟩⟩
theorem witness_FaultHistoryIsKept :
    Reachable tinyFaulted ∧ tinyFaulted.fault = true ∧ tinyFaulted.faultSeen = true ∧
      (∃ t, step tinyFaulted = .next t ∧ t.fault = false) ∧
    Reachable tinyBefore ∧ step tinyBefore = .next tinyFaulted ∧ tinyBefore.fault = false :=
  ⟨reachable_faulted, rfl, rfl, ⟨_, rfl, rfl⟩, reachable_before, rfl, rfl⟩
theorem witness_EngineWorkIsBounded :
    pendingState.Inv ∧ pendingState.en = true ∧ pendingState.fault = false ∧ pendingState.ready = false :=
  ⟨inv_pendingState, rfl, rfl, rfl⟩
/-- A run: one byte is pending, the Engine examines it, and then nobody acts. -/
def oneByteStates : Nat → State
  | 0 => pendingState
  | _ + 1 => holding pmsFOn [0x42#8] 1

/-- Its events. -/
def oneByteEvents : Nat → Option Event
  | 0 => some (.descriptor 0xC00000000000#48)
  | _ + 1 => none

theorem witness_FairRunsMakeProgress :
    IsRun oneByteStates oneByteEvents ∧ (oneByteStates 0).Inv ∧ WeaklyFair oneByteStates oneByteEvents ∧
      (∀ m, 0 ≤ m → m < 1 → byteArrives (oneByteEvents m) = false) ∧
      engineSteps oneByteStates oneByteEvents 0 1 = 1 := by
  refine ⟨fun k => ?_, inv_pendingState, fun k h => ?_, fun m _ hm => ?_, by decide⟩
  · cases k with
    | zero => rfl
    | succ k => rfl
  · exact absurd (h (k + 1) (Nat.le_succ k)) (by show ¬(holding pmsFOn [0x42#8] 1).engineEnabled = true; decide)
  · obtain rfl : m = 0 := by omega
    decide
theorem witness_EngineFindsTheEarliestFrame :
    pendingState.Inv ∧ pendingState.en = true ∧ pendingState.fault = false ∧ pendingState.ready = false :=
  ⟨inv_pendingState, rfl, rfl, rfl⟩
theorem witness_DrainTerminates :
    State.Inv (pendingState.withTrace [.drain]) ∧ (pendingState.withTrace [.drain]).trace = .drain :: [] :=
  ⟨⟨inv_pendingState.1, inv_pendingState.2, inv_pendingState.3, inv_pendingState.4, inv_pendingState.5,
    inv_pendingState.6, inv_pendingState.7, inv_pendingState.8, inv_pendingState.9⟩, rfl⟩
theorem witness_QuiescentStatesAreOfFourKinds :
    (pmsFOn.Inv ∧ pmsFOn.engineEnabled = false) ∧ (readyState.Inv ∧ readyState.engineEnabled = false) ∧
    (faultedState.Inv ∧ faultedState.engineEnabled = false) :=
  ⟨⟨inv_pmsFOn, by decide⟩, ⟨inv_readyState, by decide⟩, ⟨inv_faultedState, by decide⟩⟩
theorem witness_WrittenLinesStandForTheirOperations :
    (AsmLine.stp, Instr.engineStep) ∈
      [(AsmLine.enable, Instr.wrCtrl 1#32), (.disable, .wrCtrl 0#32), (.accept, .cmdAccept),
        (.reject, .cmdReject), (.srst, .cmdSoftReset), (.tmo, .rxTimeout), (.flt, .rxFault),
        (.stp, .engineStep)] ∧
    (0x000#12).toNat % 4 = 0 ∧ (0xFFC#12).toNat % 4 = 0 ∧
    (State.trace { pendingState with trace := [.drain] } = AsmLine.drain.events ++ [] ∧
      pendingState.engineEnabled = true ∧ pmsFOn.engineEnabled = false) ∧
    0 < (programEvents [AsmLine.stp]).length := by decide

end Sys2Proof.Tests
end

section
/-! PROOF. Which operations complete (00_scope.md R12; 40_stream_input.md R100; 41_frame_engine.md R120;
60_exceptions.md R222). -/
namespace Sys2Proof.Machine

/-! ## Meanings that always answer a next state -/

/-- A choice between two outcomes completes if both of them do. -/
theorem exists_next_ite {c : Prop} [Decidable c] {a b : Host.Outcome State Fault Refusal}
    (ha : ∃ t, a = .next t) (hb : ∃ t, b = .next t) : ∃ t, (if c then a else b) = .next t := by
  split
  · exact ha
  · exact hb

theorem execWrCtrl_completes (data : Word) (s : State) : ∃ t, execWrCtrl data s = .next t :=
  exists_next_ite (exists_next_ite ⟨_, rfl⟩ ⟨_, rfl⟩) (exists_next_ite ⟨_, rfl⟩ ⟨_, rfl⟩)

theorem execCmdAccept_completes (s : State) : ∃ t, execCmdAccept s = .next t :=
  exists_next_ite ⟨_, rfl⟩ ⟨_, rfl⟩

theorem execCmdReject_completes (s : State) : ∃ t, execCmdReject s = .next t :=
  exists_next_ite ⟨_, rfl⟩ (exists_next_ite ⟨_, rfl⟩ ⟨_, rfl⟩)

theorem execRxTimeout_completes (s : State) : ∃ t, execRxTimeout s = .next t :=
  exists_next_ite ⟨_, rfl⟩ ⟨_, rfl⟩

theorem execRxFault_completes (s : State) : ∃ t, execRxFault s = .next t :=
  exists_next_ite ⟨_, rfl⟩ ⟨_, rfl⟩

/-! ## The two operations that can be disabled -/

theorem execRxByte_completes {s : State} (h : s.rxReady = true) (b : Byte) : ∃ t, execRxByte b s = .next t :=
  ⟨_, if_pos h⟩

/-- Under a legal `FRAME_CFG` every examination completes: both ways to stop need an illegal one (I18). -/
theorem State.examine_completes {s : State} (h : s.frameCfgLegal = true) (b : Byte) :
    ∃ t, s.examine b = .next t := by
  have hm : s.mode ≠ .reserved := by
    simp only [State.frameCfgLegal, Bool.and_eq_true, decide_eq_true_eq] at h
    exact h.2
  simp only [State.examine, h, Bool.not_true, Bool.false_eq_true, if_false]
  refine exists_next_ite ⟨_, rfl⟩ ?_
  cases hmode : s.mode with
  | binFixed => exact ⟨_, rfl⟩
  | binLenfield => exact ⟨_, rfl⟩
  | text => exact ⟨_, rfl⟩
  | reserved => exact absurd hmode hm

/-- The invariant gives an enabled block a legal `FRAME_CFG`, so an enabled engine step completes (R120). -/
theorem State.Inv.execEngineStep_completes {s : State} (h : s.Inv) (he : s.engineEnabled = true) :
    ∃ t, execEngineStep s = .next t := by
  obtain ⟨hen, -⟩ := s.engineEnabled_iff.1 he
  have hcfg : s.frameCfgLegal = true := (Bool.and_eq_true_iff.1 (h.enabled_legal hen)).1
  simpa only [execEngineStep, if_pos he] using State.examine_completes hcfg _

/-! ## Completion and enabling, over every operation -/

/-- An operation that completes was enabled, in every state. -/
theorem enabledIn_of_exec_next {i : Instr} {s t : State} (h : exec i s = .next t) : enabledIn i s = true := by
  cases i
  case rxByte b => exact (execRxByte_cases h).1
  case engineStep => exact (execEngineStep_cases h).1
  case refusedPort | refusedStreamKind | refusedHostRsv | refusedMisalignedA0 | refusedMisalignedA1 => cases h
  all_goals rfl

/-- An enabled operation completes, in every state that meets the invariant. -/
theorem State.Inv.exec_completes {s : State} (h : s.Inv) {i : Instr} (he : enabledIn i s = true) :
    ∃ t, exec i s = .next t := by
  cases i
  case rxByte b => exact execRxByte_completes he b
  case engineStep => exact h.execEngineStep_completes he
  case wrCtrl data => exact execWrCtrl_completes data s
  case cmdAccept => exact execCmdAccept_completes s
  case cmdReject => exact execCmdReject_completes s
  case rxTimeout => exact execRxTimeout_completes s
  case rxFault => exact execRxFault_completes s
  case refusedPort | refusedStreamKind | refusedHostRsv | refusedMisalignedA0 | refusedMisalignedA1 => cases he
  all_goals exact ⟨_, rfl⟩

/-- Settles O49: an operation that completes was enabled by its own guard, and an enabled one completes
because the invariant leaves the engine no illegal `FRAME_CFG`. -/
theorem operationsCompleteExactlyWhenEnabled : Obligations.OperationsCompleteExactlyWhenEnabled := by
  unfold Obligations.OperationsCompleteExactlyWhenEnabled
  intro i s hinv
  constructor
  · rintro ⟨t, ht⟩
    exact enabledIn_of_exec_next ht
  · exact hinv.exec_completes

end Sys2Proof.Machine
end

section
/-! PROOF. What an operation and a step can do, said once over all operations: the values reads hand back
(43_host_access.md), the effects of the other operations, and the events of a trace (30_encoding.md R93). -/
namespace Sys2Proof.Machine

/-! ## Reads (R64) -/

/-- The value an operation hands back, if it is a read. -/
def readValue (i : Instr) (s : State) : Option Word :=
  match i with
  | .rdCtrl => some s.ctrlWord
  | .rdStatus => some s.statusWord
  | .rdCmd => some 0#32
  | .rdIrqEn => some s.irqEnWord
  | .rdFrameCfg => some s.frameCfgWord
  | .rdPattern0 => some s.pattern0
  | .rdPattern1 => some s.pattern1
  | .rdTotalLen => some s.totalLenWord
  | .rdMaxLen => some s.maxLenWord
  | .rdLenCfg => some s.lenCfgWord
  | .rdFrameLen => some s.frameLenWord
  | .rdCaps => some s.capsWord
  | .rdFrameWin k => some (s.winWord k)
  | .rdUnmapped _ => some 0#32
  | _ => none

/-- A read completes in every state, and records its value. -/
theorem exec_of_readValue {i : Instr} {s : State} {v : Word} (h : readValue i s = some v) :
    exec i s = .next (s.withRead v) := by
  cases i <;> cases h <;> rfl

/-! ## The effects of the operations -/

/-- How an operation that completes may change the state. The engine's effects are said once in
`execEngineStep_shape` and `execEngineStep_candidates`. -/
inductive Effect : Instr → State → State → Prop
  | read {i s v} (value : readValue i s = some v) : Effect i s (s.withRead v)
  | ignored {i s} : Effect i s s
  | enable {s data} (off : s.en = false) (bit : data.getLsbD 0 = true) (legal : s.legal = true) :
      Effect (.wrCtrl data) s { s with en := true }
  | enableFails {s data} (off : s.en = false) (bit : data.getLsbD 0 = true) (illegal : s.legal = false) :
      Effect (.wrCtrl data) s { s with cfgErr := true }
  | disable {s data} (on : s.en = true) (bit : data.getLsbD 0 = false) :
      Effect (.wrCtrl data) s { s with en := false, buf := [], scan := 0, ready := false }
  | acknowledge {s data} : Effect (.wrStatus data) s (s.acknowledge data)
  | irqEn {s data} : Effect (.wrIrqEn data) s { s with irqEn := irqEnOfData data }
  | configure {i s} (off : s.en = false) (cfg : FrameCfg) (p0 p1 : Word) (total longest : BitVec 16) (len : LenCfg) :
      Effect i s { s with
        frameCfg := cfg, pattern0 := p0, pattern1 := p1, totalLen := total, maxLen := longest, lenCfg := len }
  | accept {s} (ready : s.ready = true) :
      Effect .cmdAccept s { s with buf := s.buf.drop s.scan, scan := 0, ready := false }
  | reject {s} (ready : s.ready = true) (quiet : s.fault = false) :
      Effect .cmdReject s { s with
        buf := s.buf.drop 1, scan := 0, ready := false, invalid := true, lastCause := .reject }
  | rejectFaulted {s} (ready : s.ready = true) (faulted : s.fault = true) :
      Effect .cmdReject s { s with buf := [], scan := 0, ready := false }
  | softReset {s} : Effect .cmdSoftReset s s.softReset
  | byte {s b} (rx : s.rxReady = true) : Effect (.rxByte b) s { s with buf := s.buf ++ [b] }
  | timeout {s} (rx : s.rxReady = true) :
      Effect .rxTimeout s { s with buf := [], scan := 0, resync := true, lastCause := .timeout }
  | faultReady {s} (on : s.en = true) (quiet : s.fault = false) (ready : s.ready = true) :
      Effect .rxFault s { s with
        fault := true, faultSeen := true, lastCause := .ioFault, buf := s.buf.take s.scan }
  | faultUnready {s} (on : s.en = true) (quiet : s.fault = false) (unready : s.ready = false) :
      Effect .rxFault s { s with
        fault := true, faultSeen := true, lastCause := .ioFault, buf := [], scan := 0 }
  | engine {s t} (completes : execEngineStep s = .next t) : Effect .engineStep s t

/-- A locked write is ignored, an open one configures (R170). -/
theorem effect_of_unlessEnabled {i : Instr} {s stored t : State} (stores : s.en = false → Effect i s stored)
    (h : (Host.Outcome.next (s.unlessEnabled stored) : Host.Outcome State Fault Refusal) = .next t) :
    Effect i s t := by
  cases h
  cases he : s.en
  · rw [State.unlessEnabled_open he]
    exact stores he
  · rw [State.unlessEnabled_locked he]
    exact .ignored

theorem effect_wrCtrl {s t : State} {data : Word} (h : execWrCtrl data s = .next t) :
    Effect (.wrCtrl data) s t := by
  obtain ⟨he, hd, hl, rfl⟩ | ⟨he, hd, hl, rfl⟩ | ⟨he, hd, rfl⟩ | ⟨-, rfl⟩ := execWrCtrl_cases h
  · exact .enable he hd hl
  · exact .enableFails he hd hl
  · exact .disable he hd
  · exact .ignored

theorem effect_cmdAccept {s t : State} (h : execCmdAccept s = .next t) : Effect .cmdAccept s t := by
  obtain ⟨hr, rfl⟩ | ⟨-, rfl⟩ := execCmdAccept_cases h
  · exact .accept hr
  · exact .ignored

theorem effect_cmdReject {s t : State} (h : execCmdReject s = .next t) : Effect .cmdReject s t := by
  obtain ⟨hr, hf, rfl⟩ | ⟨hr, hf, rfl⟩ | ⟨-, rfl⟩ := execCmdReject_cases h
  · exact .reject hr hf
  · exact .rejectFaulted hr hf
  · exact .ignored

theorem effect_rxTimeout {s t : State} (h : execRxTimeout s = .next t) : Effect .rxTimeout s t := by
  obtain ⟨hr, rfl⟩ | ⟨-, rfl⟩ := execRxTimeout_cases h
  · exact .timeout hr
  · exact .ignored

theorem effect_rxFault {s t : State} (h : execRxFault s = .next t) : Effect .rxFault s t := by
  obtain ⟨he, hf, hr, rfl⟩ | ⟨he, hf, hr, rfl⟩ | ⟨-, rfl⟩ := execRxFault_cases h
  · exact .faultReady he hf hr
  · exact .faultUnready he hf hr
  · exact .ignored

/-- Every operation that completes has one of the listed effects. -/
theorem effect_of_exec {i : Instr} {s t : State} (h : exec i s = .next t) : Effect i s t := by
  cases i
  case wrCtrl => exact effect_wrCtrl h
  case cmdAccept => exact effect_cmdAccept h
  case cmdReject => exact effect_cmdReject h
  case rxTimeout => exact effect_rxTimeout h
  case rxFault => exact effect_rxFault h
  case engineStep => exact .engine h
  case rxByte b =>
    obtain ⟨hr, rfl⟩ := execRxByte_cases h
    exact .byte hr
  case wrFrameCfg | wrPattern0 | wrPattern1 | wrTotalLen | wrMaxLen | wrLenCfg =>
    exact effect_of_unlessEnabled (fun he => .configure he _ _ _ _ _ _) h
  case wrStatus => cases h; exact .acknowledge
  case wrIrqEn => cases h; exact .irqEn
  case cmdSoftReset => cases h; exact .softReset
  case refusedPort | refusedStreamKind | refusedHostRsv | refusedMisalignedA0 | refusedMisalignedA1 => cases h
  case cmdReserved | wrFrameLen | wrCaps | wrFrameWin | wrUnmapped => cases h; exact .ignored
  all_goals cases h; exact .read rfl

/-! ## The step (R80, R92, R93, R250) -/

/-- A step from a trace's first event is nobody's, an operation's, a `DRAIN`'s or a hardware reset. -/
theorem step_cases {s t : State} (h : step s = .next t) :
    t = s ∨
      (∃ d rest, s.trace = .descriptor d :: rest ∧ exec (decode d) (s.withTrace rest) = .next t) ∨
      (∃ rest, s.trace = .drain :: rest ∧ (exec .engineStep s = .next t ∨ t = s.withTrace rest)) ∨
      ∃ rest, s.trace = .hardwareReset :: rest ∧ t = (s.withTrace rest).hardwareReset := by
  unfold step at h
  split at h
  case h_1 => cases h; exact .inl rfl
  case h_2 d rest htr => exact .inr (.inl ⟨d, rest, htr, h⟩)
  case h_3 rest htr =>
    split at h
    · exact .inr (.inr (.inl ⟨rest, htr, .inl h⟩))
    · cases h; exact .inr (.inr (.inl ⟨rest, htr, .inr rfl⟩))
  case h_4 rest htr => cases h; exact .inr (.inr (.inr ⟨rest, htr, rfl⟩))

end Sys2Proof.Machine
end

section
/-! PROOF. The invariant of 10_state.md section 4: it holds at reset, every step keeps it, and so it holds in
every reachable state (R25, R44, R50 to R52). -/
namespace Sys2Proof.Machine

/-! ## Facts of states that meet the invariant -/

/-- A frame is ready only in an enabled block (R51). -/
theorem State.Inv.en_of_ready {s : State} (h : s.Inv) (hr : s.ready = true) : s.en = true := by
  by_contra he
  obtain ⟨-, -, hr'⟩ := h.idle_empty (by simpa using he)
  simp [hr] at hr'

/-- While the block collects, `SCAN < Lmax ≤ MAX_FRAME` (R50). -/
theorem State.Inv.scan_lt_lmax {s : State} (h : s.Inv) (he : s.en = true) (hf : s.fault = false)
    (hr : s.ready = false) : s.scan < s.lmax ∧ s.lmax ≤ s.params.maxFrame := by
  obtain ⟨-, hlt, -⟩ := h.candidate_open he hf hr
  rw [List.length_take_of_le h.scan_le] at hlt
  obtain ⟨-, -, hmax, -⟩ := State.legal_parts (h.enabled_legal he)
  exact ⟨hlt, hmax⟩

/-- While `rx_ready` = 1 there is room for a byte (R50). -/
theorem State.Inv.room_of_rxReady {s : State} (h : s.Inv) (hrx : s.rxReady = true) :
    s.buf.length < s.params.maxFrame := by
  obtain ⟨he, hf, hr, hs⟩ := s.rxReady_iff.1 hrx
  obtain ⟨h1, h2⟩ := h.scan_lt_lmax he hf hr
  omega

/-- A terminal length depends on no byte behind it. -/
theorem State.terminal_take {s : State} {l : List Byte} {n : Nat} (h : s.terminal l n) :
    s.terminal (l.take n) n := by
  unfold State.terminal at h ⊢
  cases hm : s.mode <;> simp only [hm] at h ⊢
  case binFixed => exact h
  case binLenfield =>
    obtain ⟨hend, hlegal, hn⟩ := h
    rw [State.announcesLegal, State.announcedLen_take s l n hend]
    exact ⟨hend, hlegal, hn⟩
  case text =>
    obtain ⟨hpat, hmax, hlf, hno⟩ := h
    refine ⟨hpat, hmax, ?_, fun k hk hkn => ?_⟩
    · rw [List.getElem?_take_of_lt (by omega)]
      exact hlf
    · rw [List.getElem?_take_of_lt (by omega)]
      exact hno k hk hkn

/-- A frame depends on no byte behind it. -/
theorem State.framesAt_take {s : State} {l : List Byte} {n : Nat} (h : s.framesAt l n) :
    s.framesAt (l.take n) n := by
  obtain ⟨hn, hbegin, hterm, hvalid⟩ := h
  rw [State.framesAt, List.take_take, Nat.min_self, List.length_take_of_le hn]
  exact ⟨Nat.le_refl n, hbegin, State.terminal_take hterm, hvalid⟩

/-! ## The updates keep the invariant -/

/-- The invariant does not speak of `IRQ_EN`, the sticky bits, the reads and the trace. -/
theorem State.Inv.of_unrelated {s : State} (h : s.Inv) (irqEn : BitVec 5) (invalid resync cfgErr : Bool)
    (reads : List Word) (trace : List Event) : State.Inv { s with
      irqEn := irqEn, invalid := invalid, resync := resync, cfgErr := cfgErr, reads := reads, trace := trace } :=
  ⟨h.params_legal, h.scan_le, h.buf_le, h.enabled_legal, h.idle_empty, h.fault_quiet, h.fault_cause,
    h.candidate_open, h.ready_frame⟩

theorem State.Inv.withTrace {s : State} (h : s.Inv) (rest : List Event) : (s.withTrace rest).Inv :=
  h.of_unrelated s.irqEn s.invalid s.resync s.cfgErr s.reads rest

theorem State.Inv.hardwareReset {s : State} (h : s.Inv) : s.hardwareReset.Inv :=
  State.Inv.idle h.params_legal rfl rfl rfl nofun nofun

/-- A disabled block is empty, so any configuration written to it is as good as any other (R51, R170). -/
theorem State.Inv.configure {s : State} (h : s.Inv) (off : s.en = false) (cfg : FrameCfg) (p0 p1 : Word)
    (total longest : BitVec 16) (len : LenCfg) : State.Inv { s with
      frameCfg := cfg, pattern0 := p0, pattern1 := p1, totalLen := total, maxLen := longest, lenCfg := len } := by
  obtain ⟨hb, hs, hr⟩ := h.idle_empty off
  exact State.Inv.idle h.params_legal hb hs hr (fun he => absurd (off.symm.trans he) nofun) h.fault_cause

/-- Enabling under a legal configuration (R171). -/
theorem State.Inv.enable {s : State} (h : s.Inv) (off : s.en = false) (legal : s.legal = true) :
    State.Inv { s with en := true } := by
  obtain ⟨hb, hs, hr⟩ := h.idle_empty off
  exact State.Inv.idle h.params_legal hb hs hr (fun _ => legal) h.fault_cause

/-- Releasing the frame: behind a faulted one nothing is left (R52, R201). -/
theorem State.Inv.accept {s : State} (h : s.Inv) (ready : s.ready = true) :
    State.Inv { s with buf := s.buf.drop s.scan, scan := 0, ready := false } := by
  cases hf : s.fault with
  | false => exact h.restart (h.en_of_ready ready) hf ⟨s.scan, s.invalid, s.lastCause, by rw [hf]⟩
  | true =>
    obtain ⟨hlen, -⟩ := h.fault_quiet hf
    have hempty : s.buf.drop s.scan = [] := List.drop_eq_nil_of_le (Nat.le_of_eq hlen)
    exact State.Inv.idle h.params_legal hempty rfl rfl h.enabled_legal fun _ => h.fault_cause hf

/-- A received byte stands behind the candidate, for which there is room (R50, R101). -/
theorem State.Inv.byte {s : State} (h : s.Inv) (rx : s.rxReady = true) (b : Byte) :
    State.Inv { s with buf := s.buf ++ [b] } := by
  obtain ⟨he, hf, hr, -⟩ := s.rxReady_iff.1 rx
  have hscan := h.scan_le
  exact {
    params_legal := h.params_legal
    scan_le := by
      rw [List.length_append]
      exact Nat.le_add_right_of_le hscan
    buf_le := by
      rw [List.length_append]
      exact h.room_of_rxReady rx
    enabled_legal := h.enabled_legal
    idle_empty := fun h' => absurd (he.symm.trans h') nofun
    fault_quiet := fun h' => absurd (hf.symm.trans h') nofun
    fault_cause := h.fault_cause
    candidate_open := fun _ _ _ => by
      show s.openCandidate ((s.buf ++ [b]).take s.scan)
      rw [List.take_append_of_le_length hscan]
      exact h.candidate_open he hf hr
    ready_frame := fun h' => absurd (hr.symm.trans h') nofun }

/-- An I/O fault keeps the ready frame and drops what stands behind it (R52, R104). -/
theorem State.Inv.faultReady {s : State} (h : s.Inv) (ready : s.ready = true) : State.Inv { s with
    fault := true, faultSeen := true, lastCause := .ioFault, buf := s.buf.take s.scan } := by
  have hlen : (s.buf.take s.scan).length = s.scan := List.length_take_of_le h.scan_le
  have he := h.en_of_ready ready
  exact {
    params_legal := h.params_legal
    scan_le := Nat.le_of_eq hlen.symm
    buf_le := (List.length_take_le' _ _).trans h.buf_le
    enabled_legal := h.enabled_legal
    idle_empty := fun h' => absurd (he.symm.trans h') nofun
    fault_quiet := fun _ => ⟨hlen, fun h' => absurd (ready.symm.trans h') nofun⟩
    fault_cause := fun _ => ⟨rfl, rfl⟩
    candidate_open := nofun
    ready_frame := fun _ => State.framesAt_take (h.ready_frame ready) }

/-- An engine step keeps the byte of an open candidate, hands a frame over, or slides. -/
theorem State.Inv.engine {s t : State} (h : s.Inv) (completes : execEngineStep s = .next t) : t.Inv := by
  obtain ⟨he, ⟨rfl, hopen⟩ | ⟨rfl, hframe⟩ | ⟨⟨i, c, rfl⟩, -, -⟩⟩ := execEngineStep_candidates h completes
  · exact h.keepByte he hopen
  · exact h.handOver he hframe
  · obtain ⟨hen, hf, hr, -⟩ := s.engineEnabled_iff.1 he
    exact h.restart hen hf ⟨1, i, c, by rw [hr]⟩

/-! ## Every step keeps the invariant -/

theorem State.Inv.of_effect {i : Instr} {s t : State} (h : s.Inv) (e : Effect i s t) : t.Inv := by
  cases e with
  | read => exact h.of_unrelated s.irqEn s.invalid s.resync s.cfgErr _ s.trace
  | ignored => exact h
  | enable off bit legal => exact h.enable off legal
  | enableFails => exact h.of_unrelated s.irqEn s.invalid s.resync true s.reads s.trace
  | disable => exact State.Inv.idle h.params_legal rfl rfl rfl nofun h.fault_cause
  | acknowledge => exact h.of_unrelated s.irqEn _ _ _ s.reads s.trace
  | irqEn => exact h.of_unrelated _ s.invalid s.resync s.cfgErr s.reads s.trace
  | configure off => exact h.configure off _ _ _ _ _ _
  | accept ready => exact h.accept ready
  | reject ready quiet => exact h.restart (h.en_of_ready ready) quiet ⟨1, true, .reject, rfl⟩
  | rejectFaulted => exact State.Inv.idle h.params_legal rfl rfl rfl h.enabled_legal h.fault_cause
  | softReset => exact State.Inv.idle h.params_legal rfl rfl rfl nofun nofun
  | byte rx => exact h.byte rx _
  | timeout rx =>
    obtain ⟨-, hf, hr, -⟩ := s.rxReady_iff.1 rx
    exact State.Inv.idle h.params_legal rfl rfl hr h.enabled_legal fun h' => absurd (hf.symm.trans h') nofun
  | faultReady on quiet ready => exact h.faultReady ready
  | faultUnready on quiet unready =>
    exact State.Inv.idle h.params_legal rfl rfl unready h.enabled_legal fun _ => ⟨rfl, rfl⟩
  | engine completes => exact h.engine completes

theorem State.Inv.of_exec {i : Instr} {s t : State} (h : s.Inv) (hx : exec i s = .next t) : t.Inv :=
  h.of_effect (effect_of_exec hx)

theorem State.Inv.of_step {s t : State} (h : s.Inv) (hs : step s = .next t) : t.Inv := by
  obtain rfl | ⟨d, rest, -, hx⟩ | ⟨rest, -, hx | rfl⟩ | ⟨rest, -, rfl⟩ := step_cases hs
  · exact h
  · exact (h.withTrace rest).of_exec hx
  · exact h.of_exec hx
  · exact h.withTrace rest
  · exact (h.withTrace rest).hardwareReset

/-- Settles O51: each effect of an operation, and each other event, keeps every clause of the invariant. -/
theorem stepKeepsTheInvariant : Obligations.StepKeepsTheInvariant := by
  unfold Obligations.StepKeepsTheInvariant
  intro s t h hs
  exact h.of_step hs

/-! ## Reset and reachable states -/

theorem inv_resetWith {p : Params} (legal : p.legal = true) (trace : List Event) :
    State.Inv ((State.resetWith p).withTrace trace) :=
  State.Inv.idle legal rfl rfl rfl nofun nofun

/-- Settles O50: the reset state is disabled and holds nothing. -/
theorem resetMeetsTheInvariant : Obligations.ResetMeetsTheInvariant := by
  unfold Obligations.ResetMeetsTheInvariant
  intro p trace legal
  exact ⟨inv_resetWith legal trace, rfl, by decide⟩

theorem Reachable.inv {s : State} (h : Reachable s) : s.Inv := by
  induction h with
  | reset p legal trace => exact inv_resetWith legal trace
  | step s t _ one ih => exact ih.of_step one

/-- The bytes of a candidate or frame of `n` bytes that begins with the pattern (R44). -/
theorem State.beginsPattern_get {s : State} {l : List Byte} {n k : Nat} (h : s.beginsPattern (l.take n))
    (hn : n ≤ l.length) (hkn : k < n) (hk : k < s.patLen) : l[k]? = s.patternByte k := by
  have := h k (by rw [List.length_take_of_le hn]; exact hkn) hk
  rwa [List.getElem?_take_of_lt hkn] at this

/-- Settles O52: reachable states meet the invariant, which says each of the rules. -/
theorem reachableStatesKeepTheBufferRules : Obligations.ReachableStatesKeepTheBufferRules := by
  unfold Obligations.ReachableStatesKeepTheBufferRules
  intro s hs
  have h := hs.inv
  refine ⟨⟨h.scan_le, h.buf_le⟩, h.scan_lt_lmax, h.room_of_rxReady, h.idle_empty, h.fault_quiet, ?_, ?_⟩
  · intro he hf hr k hks hkp
    obtain ⟨hbegin, -, -⟩ := h.candidate_open he hf hr
    exact State.beginsPattern_get hbegin h.scan_le hks hkp
  · intro hr
    obtain ⟨-, hbegin, hterm, hvalid⟩ := h.ready_frame hr
    have hlong := State.terminal_gt (h.enabled_legal (h.en_of_ready hr)) hterm
    refine ⟨fun k hk => ?_, hterm, hvalid⟩
    exact State.beginsPattern_get hbegin h.scan_le (Nat.lt_trans hk hlong) hk

end Sys2Proof.Machine
end

section
/-! PROOF. Rules of 10_state.md over every operation: what host reads see (R47), which bits rise (R26, R33, R37
to R39), the ready frame (R53), and the fault's history (R26, I10). -/
namespace Sys2Proof.Machine

/-! ## Host reads (R47, R224) -/

/-- An operation that adds to the record of reads is a read. -/
theorem readValue_of_reads_ne {i : Instr} {s t : State} (h : exec i s = .next t) (hne : t.reads ≠ s.reads) :
    ∃ v, readValue i s = some v ∧ t = s.withRead v := by
  cases effect_of_exec h with
  | read value => exact ⟨_, value, rfl⟩
  | engine completes =>
    obtain ⟨-, rfl | rfl | rfl | ⟨c, -, rfl⟩⟩ := execEngineStep_shape completes <;> exact absurd rfl hne
  | _ => exact absurd rfl hne

/-- STATUS sees only the length of BUF (R34, R42). -/
theorem State.statusWord_of_length {s : State} {other : List Byte} (hlen : other.length = s.buf.length) :
    State.statusWord { s with buf := other } = s.statusWord := by
  have hpending : State.pending { s with buf := other } = s.pending := congrArg (· - s.scan) hlen
  unfold State.statusWord
  rw [hpending]
  rfl

/-- A window byte is one of the ready frame's bytes or 0x00 (R47). -/
theorem State.winByte_of_frame {s : State} {other : List Byte}
    (hframe : s.ready = true → other.take s.scan = s.buf.take s.scan) (n : Nat) :
    State.winByte { s with buf := other } n = s.winByte n := by
  unfold State.winByte
  refine if_ctx_congr Iff.rfl (fun hc => ?_) fun _ => rfl
  obtain ⟨hr, hn⟩ := Bool.and_eq_true_iff.1 hc
  have hn : n < s.scan := of_decide_eq_true hn
  have hget := congrArg (·[n]?) (hframe hr)
  simp only [List.getElem?_take_of_lt hn] at hget
  simp only [List.getD_eq_getElem?_getD, hget]

/-- No read sees more of BUF than its length and the ready frame. -/
theorem readValue_of_frame {i : Instr} {s : State} {other : List Byte} (hlen : other.length = s.buf.length)
    (hframe : s.ready = true → other.take s.scan = s.buf.take s.scan) :
    readValue i { s with buf := other } = readValue i s := by
  cases i
  case rdStatus => exact congrArg some (State.statusWord_of_length hlen)
  case rdFrameWin k =>
    simp only [readValue, State.winWord, State.winByte_of_frame hframe]
  all_goals rfl

/-- Settles O20: of the reads, only STATUS and the window look at BUF, at its length and at the ready frame. -/
theorem unvalidatedBytesAreInvisibleToTheHost : Obligations.UnvalidatedBytesAreInvisibleToTheHost := by
  unfold Obligations.UnvalidatedBytesAreInvisibleToTheHost
  intro s other i t hlen hframe h hne
  obtain ⟨v, hv, rfl⟩ := readValue_of_reads_ne h hne
  exact exec_of_readValue ((readValue_of_frame hlen hframe).trans hv)

/-! ## Rising bits -/

/-- A bit that is set after a step only if it was set before does not rise. -/
theorem not_rises {a b : Bool} {p : Prop} (h : b = true → a = true) (ha : a = false) (hb : b = true) : p :=
  absurd (ha.symm.trans (h hb)) nofun

/-- Settles O46: in each effect of an operation, a bit of the five is kept or cleared, or it is the effect that
the bit's rule names. -/
theorem bitsRiseOnlyOnTheirEvents : Obligations.BitsRiseOnlyOnTheirEvents := by
  unfold Obligations.BitsRiseOnlyOnTheirEvents
  intro i s t h
  cases effect_of_exec h with
  | enable off bit legal =>
    exact ⟨fun _ _ => ⟨legal, _, rfl, bit⟩, not_rises id, not_rises id, not_rises id, not_rises id⟩
  | enableFails off bit illegal =>
    exact ⟨not_rises id, not_rises id, not_rises id, fun _ _ => ⟨off, illegal, _, rfl, bit⟩, not_rises id⟩
  | disable => exact ⟨nofun, not_rises id, not_rises id, not_rises id, not_rises id⟩
  | acknowledge =>
    exact ⟨not_rises id, not_rises Bool.and_elim_left, not_rises Bool.and_elim_left, not_rises Bool.and_elim_left,
      not_rises id⟩
  | reject =>
    exact ⟨not_rises id, fun _ _ => ⟨.inr rfl, rfl, rfl⟩, not_rises id, not_rises id, not_rises id⟩
  | softReset => exact ⟨nofun, nofun, nofun, nofun, nofun⟩
  | timeout rx => exact ⟨not_rises id, not_rises id, fun _ _ => ⟨rfl, rx⟩, not_rises id, not_rises id⟩
  | faultReady on | faultUnready on =>
    exact ⟨not_rises id, not_rises id, not_rises id, not_rises id, fun _ _ => ⟨rfl, on⟩⟩
  | engine completes =>
    obtain ⟨-, rfl | rfl | rfl | ⟨c, -, rfl⟩⟩ := execEngineStep_shape completes
    case inr.inr.inr =>
      exact ⟨not_rises id, fun _ _ => ⟨.inl rfl, rfl, rfl⟩, not_rises id, not_rises id, not_rises id⟩
    all_goals exact ⟨not_rises id, not_rises id, not_rises id, not_rises id, not_rises id⟩
  | _ => exact ⟨not_rises id, not_rises id, not_rises id, not_rises id, not_rises id⟩

/-! ## The ready frame (R53) -/

theorem State.rxReady_of_ready {s : State} (h : s.ready = true) : s.rxReady = false := by
  simp [State.rxReady, h]

theorem State.engineEnabled_of_ready {s : State} (h : s.ready = true) : s.engineEnabled = false := by
  simp [State.engineEnabled, h]

theorem execRxByte_stuck {s : State} (h : s.rxReady = false) (b : Byte) :
    execRxByte b s = .fault .rxByteNotEnabled := by
  simp [execRxByte, h]

theorem execEngineStep_stuck {s : State} (h : s.engineEnabled = false) :
    execEngineStep s = .fault .engineStepNotEnabled := by
  simp [execEngineStep, h]

/-- An operation that none of R53's ends of a ready frame is leaves it as it is. -/
theorem Effect.keeps_ready_frame {i : Instr} {s t : State} (e : Effect i s t) (hr : s.ready = true)
    (hacc : i ≠ .cmdAccept) (hrej : i ≠ .cmdReject) (hsoft : i ≠ .cmdSoftReset)
    (hctrl : ∀ data, i = .wrCtrl data → data.getLsbD 0 = true) :
    t.ready = true ∧ t.scan = s.scan ∧ t.buf.take t.scan = s.buf.take s.scan := by
  cases e with
  | disable _ bit => exact absurd (bit.symm.trans (hctrl _ rfl)) nofun
  | accept => exact absurd rfl hacc
  | reject => exact absurd rfl hrej
  | rejectFaulted => exact absurd rfl hrej
  | softReset => exact absurd rfl hsoft
  | byte rx => exact absurd (rx.symm.trans (State.rxReady_of_ready hr)) nofun
  | timeout rx => exact absurd (rx.symm.trans (State.rxReady_of_ready hr)) nofun
  | faultReady => exact ⟨hr, rfl, by simp only [List.take_take, Nat.min_self]⟩
  | faultUnready _ _ unready => exact absurd (hr.symm.trans unready) nofun
  | engine completes =>
    rw [execEngineStep_stuck (State.engineEnabled_of_ready hr)] at completes
    cases completes
  | _ => exact ⟨hr, rfl, rfl⟩

/-- Settles O47: `rx_ready` and the engine's enabling ask for READY = 0, and of the other effects only an I/O
fault touches BUF, behind the frame. -/
theorem readyFrameIsStable : Obligations.ReadyFrameIsStable := by
  unfold Obligations.ReadyFrameIsStable
  intro i s hr
  refine ⟨execRxByte_stuck (State.rxReady_of_ready hr), execEngineStep_stuck (State.engineEnabled_of_ready hr), ?_⟩
  intro t h
  exact (effect_of_exec h).keeps_ready_frame hr

/-! ## The fault's history (R26, I10) -/

/-- No operation clears the history flag, and only a soft reset clears FAULT. -/
theorem Effect.keeps_fault {i : Instr} {s t : State} (e : Effect i s t) :
    (s.faultSeen = true → t.faultSeen = true) ∧ (s.fault = true → t.fault = false → i = .cmdSoftReset) := by
  have kept {p : Prop} (hf : s.fault = true) (hf' : s.fault = false) : p := not_rises id hf' hf
  cases e with
  | softReset => exact ⟨id, fun _ _ => rfl⟩
  | faultReady => exact ⟨fun _ => rfl, nofun⟩
  | faultUnready => exact ⟨fun _ => rfl, nofun⟩
  | engine completes =>
    obtain ⟨-, rfl | rfl | rfl | ⟨c, -, rfl⟩⟩ := execEngineStep_shape completes <;> exact ⟨id, kept⟩
  | _ => exact ⟨id, kept⟩

/-- No step clears the history flag, and only the two resets clear FAULT. -/
theorem step_keeps_fault {s t : State} (h : step s = .next t) :
    (s.faultSeen = true → t.faultSeen = true) ∧
      (s.fault = true → t.fault = false → (∃ rest, s.trace = .hardwareReset :: rest) ∨
        ∃ d rest, s.trace = .descriptor d :: rest ∧ decode d = .cmdSoftReset) := by
  obtain rfl | ⟨d, rest, htr, hx⟩ | ⟨rest, -, hx | rfl⟩ | ⟨rest, htr, rfl⟩ := step_cases h
  · exact ⟨id, fun hf hf' => not_rises id hf' hf⟩
  · obtain ⟨hseen, hfalls⟩ := (effect_of_exec hx).keeps_fault
    exact ⟨hseen, fun hf hf' => .inr ⟨d, rest, htr, hfalls hf hf'⟩⟩
  · obtain ⟨hseen, hfalls⟩ := (effect_of_exec hx).keeps_fault
    exact ⟨hseen, fun hf hf' => absurd (hfalls hf hf') nofun⟩
  · exact ⟨id, fun hf hf' => not_rises id hf' hf⟩
  · exact ⟨id, fun _ _ => .inl ⟨rest, htr⟩⟩

/-- Settles O53: the invariant ties FAULT to its cause and to the flag, before and after the step. -/
theorem faultHistoryIsKept : Obligations.FaultHistoryIsKept := by
  unfold Obligations.FaultHistoryIsKept
  intro s hs
  refine ⟨fun hf => (hs.inv.fault_cause hf).symm, fun t ht => ?_⟩
  obtain ⟨hseen, hfalls⟩ := step_keeps_fault ht
  exact ⟨fun _ hf' => ((hs.inv.of_step ht).fault_cause hf').2, hseen, hfalls⟩

end Sys2Proof.Machine
end

section
/-! PROOF. The legal configurations (R54), the pattern bytes (R28) and the interrupt level (R49, R226), said of
the stored fields. -/
namespace Sys2Proof.Machine

/-! ## Configuration (R28, R54) -/

/-- The modes R27 lists, by the code of `FRAME_CFG.MODE`. -/
theorem Mode.ofBits_cases (m : BitVec 2) :
    (m = 0#2 ∧ Mode.ofBits m = .binFixed) ∨ (m = 1#2 ∧ Mode.ofBits m = .binLenfield) ∨
      (m = 2#2 ∧ Mode.ofBits m = .text) ∨ (m = 3#2 ∧ Mode.ofBits m = .reserved) := by
  revert m
  decide

theorem State.legal_iff (s : State) : s.legal = true ↔
    1 ≤ s.patLen ∧ s.patLen ≤ Config.maxPat ∧ s.mode ≠ .reserved ∧ s.lengthsLegal = true := by
  simp only [State.legal, State.frameCfgLegal, Bool.and_eq_true, decide_eq_true_eq, and_assoc]

/-- Settles O22: the bounds of each mode, by the four codes of `FRAME_CFG.MODE`. -/
theorem legalConfigurations : Obligations.LegalConfigurations := by
  unfold Obligations.LegalConfigurations
  intro s
  rw [State.legal_iff]
  refine and_congr_right fun _ => and_congr_right fun _ => ?_
  obtain ⟨hbits, hmode⟩ | ⟨hbits, hmode⟩ | ⟨hbits, hmode⟩ | ⟨hbits, hmode⟩ :=
      Mode.ofBits_cases s.frameCfg.mode <;>
    rw [← State.mode] at hmode <;>
    simp only [State.lengthsLegal, hmode, Bool.and_eq_true, decide_eq_true_eq, and_assoc] <;>
    simp [hbits, State.patLen, State.lenEnd, State.lenWidth]

/-- Settles O35: a byte of a register is its value divided and taken mod 256. -/
theorem patternBytesAreTheRegisterBytes : Obligations.PatternBytesAreTheRegisterBytes := by
  unfold Obligations.PatternBytesAreTheRegisterBytes
  intro s k
  refine ⟨fun h => ⟨_, if_pos h, extract_toNat _ _ _⟩, fun h4 h8 => ⟨_, ?_, extract_toNat _ _ _⟩⟩
  exact (if_neg (by omega)).trans (if_pos h8)

/-! ## The interrupt level (R49) -/

/-- `irq` by the five sources (R49, R226). -/
theorem State.irq_iff (s : State) : s.irq = true ↔
    (s.ready = true ∧ s.irqEn.getLsbD 0 = true) ∨ (s.fault = true ∧ s.irqEn.getLsbD 1 = true) ∨
      (s.invalid = true ∧ s.irqEn.getLsbD 2 = true) ∨ (s.resync = true ∧ s.irqEn.getLsbD 3 = true) ∨
      (s.cfgErr = true ∧ s.irqEn.getLsbD 4 = true) := by
  obtain ⟨h0, h1, h2, h3, h4, -⟩ := s.statusWord_bits
  simp only [State.irq, List.any_eq_true, List.mem_range, Bool.and_eq_true, ← h0, ← h1, ← h2, ← h3, ← h4]
  constructor
  · rintro ⟨b, hb, hbit⟩
    interval_cases b <;> simp only [hbit, true_or, or_true, and_self]
  · rintro (h | h | h | h | h)
    exacts [⟨0, by omega, h⟩, ⟨1, by omega, h⟩, ⟨2, by omega, h⟩, ⟨3, by omega, h⟩, ⟨4, by omega, h⟩]

/-- Settles O43: the level is the five sources', and with every enable at 0 none is left. -/
theorem interruptLevel : Obligations.InterruptLevel := by
  unfold Obligations.InterruptLevel
  intro s
  refine ⟨s.irq_iff, fun t ht => ?_⟩
  cases ht
  rw [Bool.eq_false_iff, Ne, State.irq_iff]
  simp [irqEnOfData]

end Sys2Proof.Machine
end

section
/-! PROOF. The register block as the host's memory (20_memory.md): aligned reads follow the register map (R60, R63,
R68), reads have no side effect (R64), and the configuration holds still while enabled (R74, R170). -/
namespace Sys2Proof.Machine

/-! ## The register map (R60, R63) -/

theorem State.busRead_window (s : State) (k : BitVec 8) : s.busRead (windowOffset k) = s.winWord k := by
  obtain ⟨-, hin, ne⟩ := windowOffset_facts k
  simp [State.busRead, hin, windowIndexOf_windowOffset, ne]

theorem State.busRead_unmapped (s : State) {addr : Offset} (h : addr.unmapped = true) : s.busRead addr = 0#32 := by
  obtain ⟨-, hin, ne⟩ := unmapped_facts h
  simp [State.busRead, hin, ne]

/-- The read an aligned offset decodes to hands back the register map's value there. -/
theorem readValue_decodeRead (s : State) {addr : Offset} (h : addr.toNat % 4 = 0) :
    readValue (decodeRead addr) s = some (s.busRead addr) := by
  obtain hreg | ⟨k, rfl⟩ | hun := aligned_cases h
  · obtain rfl | rfl | rfl | rfl | rfl | rfl | rfl | rfl | rfl | rfl | rfl | rfl := hreg <;> rfl
  · rw [decodeRead_window, State.busRead_window]
    rfl
  · rw [decodeRead_unmapped hun, State.busRead_unmapped s hun]
    rfl

/-- Settles O17: an aligned offset is one of the twelve registers, a window word or unmapped, and the read it
decodes to hands back the map's value in each case. -/
theorem alignedReadsFollowTheRegisterMap : Obligations.AlignedReadsFollowTheRegisterMap := by
  unfold Obligations.AlignedReadsFollowTheRegisterMap
  intro s addr data h
  rw [decode_host data h]
  exact exec_of_readValue (readValue_decodeRead s h)

/-! ## Side effects of reads (R64) -/

/-- Settles O19: an operation that changes the record of reads is a read, and a read only adds its value. -/
theorem stepsThatHandBackAValueChangeNothingElse : Obligations.StepsThatHandBackAValueChangeNothingElse := by
  unfold Obligations.StepsThatHandBackAValueChangeNothingElse
  intro i s t h hne
  obtain ⟨v, -, rfl⟩ := readValue_of_reads_ne h hne
  exact ⟨rfl, v, rfl⟩

/-! ## The configuration (R74, R170) -/

/-- No operation changes the parameters (log 7). -/
theorem Effect.keeps_params {i : Instr} {s t : State} (e : Effect i s t) : t.params = s.params := by
  cases e with
  | engine completes =>
    obtain ⟨-, rfl | rfl | rfl | ⟨c, -, rfl⟩⟩ := execEngineStep_shape completes <;> rfl
  | _ => rfl

/-- Of the effects only a configuration write touches the configuration registers, and it needs `EN` = 0. -/
theorem Effect.keeps_configuration {i : Instr} {s t : State} (e : Effect i s t) (on : s.en = true) :
    t.frameCfg = s.frameCfg ∧ t.pattern0 = s.pattern0 ∧ t.pattern1 = s.pattern1 ∧
      t.totalLen = s.totalLen ∧ t.maxLen = s.maxLen ∧ t.lenCfg = s.lenCfg := by
  cases e with
  | configure off => exact absurd (on.symm.trans off) nofun
  | engine completes =>
    obtain ⟨-, rfl | rfl | rfl | ⟨c, -, rfl⟩⟩ := execEngineStep_shape completes <;>
      exact ⟨rfl, rfl, rfl, rfl, rfl, rfl⟩
  | _ => exact ⟨rfl, rfl, rfl, rfl, rfl, rfl⟩

/-- Settles O27: every effect keeps the parameters, and every effect possible under `EN` = 1 the configuration. -/
theorem configurationIsConstantWhileEnabled : Obligations.ConfigurationIsConstantWhileEnabled := by
  unfold Obligations.ConfigurationIsConstantWhileEnabled
  intro i s t h
  exact ⟨(effect_of_exec h).keeps_params, (effect_of_exec h).keeps_configuration⟩

end Sys2Proof.Machine
end

section
/-! PROOF. Decoding (30_encoding.md R80 to R87): decode of encode is the operation, and what every descriptor decodes
to, with its operands, its well-formedness and the bits that do not matter. -/
namespace Sys2Proof

/-! ## Decode of encode (R81 to R84, R87) -/

theorem codeOf_append (high : BitVec 28) (code : BitVec 4) : codeOf (high ++ code) = code := by
  apply BitVec.eq_of_toNat_eq
  rw [codeOf_toNat, toNat_append_add]
  omega

/-- The four rows of a `CMD` write (R84, R87). -/
theorem decodeCommand_cases (code : BitVec 4) :
    (code = 0x1#4 ∧ decodeCommand code = .cmdAccept) ∨ (code = 0x2#4 ∧ decodeCommand code = .cmdReject) ∨
      (code = 0xF#4 ∧ decodeCommand code = .cmdSoftReset) ∨
      (reservedCode code = true ∧ decodeCommand code = .cmdReserved code) := by
  revert code
  decide

theorem decodeCommand_reserved {code : BitVec 4} (h : reservedCode code = true) :
    decodeCommand code = .cmdReserved code := by
  obtain ⟨rfl, -⟩ | ⟨rfl, -⟩ | ⟨rfl, -⟩ | ⟨-, hd⟩ := decodeCommand_cases code
  case inr.inr.inr => exact hd
  all_goals exact absurd h (by decide)

/-- Settles O1: a HOST descriptor decodes by its offset, which is a register's, a window word's or unmapped; the
other operations' descriptors by `PORT` and `KIND`. -/
theorem decodeOfEncodeIsTheOperation : Obligations.DecodeOfEncodeIsTheOperation := by
  unfold Obligations.DecodeOfEncodeIsTheOperation
  intro i h
  cases i
  case rdFrameWin k => exact (decode_host _ (windowOffset_facts k).1).trans (decodeRead_window k)
  case wrFrameWin k data => exact (decode_host _ (windowOffset_facts k).1).trans (decodeWrite_window k data)
  case rdUnmapped addr => exact (decode_host _ (unmapped_facts h).1).trans (decodeRead_unmapped h)
  case wrUnmapped addr data => exact (decode_host _ (unmapped_facts h).1).trans (decodeWrite_unmapped data h)
  case cmdReserved code =>
    have hcode : decodeWrite 0x008#12 (0#28 ++ code) = decodeCommand (codeOf (0#28 ++ code)) := rfl
    exact (decode_host _ (by decide)).trans (by rw [if_pos rfl, hcode, codeOf_append, decodeCommand_reserved h])
  case rxByte b => exact decode_stream 0#2 b
  case rxTimeout | rxFault | refusedStreamKind => exact decode_stream _ _
  case engineStep | refusedPort | refusedHostRsv | refusedMisalignedA0 | refusedMisalignedA1 => decide
  all_goals exact decode_host _ (by decide)

/-! ## Every descriptor (R84, R85) -/

/-- A descriptor of `PORT` 00 with bit 44 clear is the host access its fields say. -/
theorem eq_hostDescriptor {d : Descriptor} (hp : portOf d = 0#2) (hr : hostRsvOf d = false) :
    d = hostDescriptor (writeOf d) (addrOf d) (dataOf d) := by
  have hd := d.isLt
  have hp : d.toNat / 2 ^ 46 = 0 := by rw [← portOf_toNat, hp]; rfl
  rw [hostRsvOf, getLsbD_eq_div, decide_eq_false_iff_not] at hr
  have hw : (writeOf d).toNat = d.toNat / 2 ^ 45 % 2 := by
    rw [writeOf, getLsbD_eq_div]
    obtain h | h := Nat.mod_two_eq_zero_or_one (d.toNat / 2 ^ 45) <;> simp only [h] <;> rfl
  apply BitVec.eq_of_toNat_eq
  rw [hostDescriptor_toNat, hw, addrOf_toNat, dataOf_toNat]
  omega

/-- What a descriptor can decode to, with the fields that select it. -/
inductive Decoded : Descriptor → Instr → Prop
  | badPort {d} (port : portOf d = 2#2) : Decoded d .refusedPort
  | badKind {d} (port : portOf d = 1#2) (kind : kindOf d = 3#2) : Decoded d .refusedStreamKind
  | badBit {d} (port : portOf d = 0#2) (rsv : hostRsvOf d = true) : Decoded d .refusedHostRsv
  | misaligned0 {d} (port : portOf d = 0#2) (rsv : hostRsvOf d = false) (bit : (addrOf d).getLsbD 0 = true) :
      Decoded d .refusedMisalignedA0
  | misaligned1 {d} (port : portOf d = 0#2) (rsv : hostRsvOf d = false)
      (bits : (addrOf d).extractLsb' 0 2 = 2#2) : Decoded d .refusedMisalignedA1
  | byte {d} (port : portOf d = 1#2) (kind : kindOf d = 0#2) : Decoded d (.rxByte (byteOf d))
  | timeout {d} (port : portOf d = 1#2) (kind : kindOf d = 1#2) : Decoded d .rxTimeout
  | fault {d} (port : portOf d = 1#2) (kind : kindOf d = 2#2) : Decoded d .rxFault
  | engine {d} (port : portOf d = 3#2) : Decoded d .engineStep
  | read {addr data} (aligned : addr.toNat % 4 = 0) :
      Decoded (hostDescriptor false addr data) (decodeRead addr)
  | write {addr data} (aligned : addr.toNat % 4 = 0) :
      Decoded (hostDescriptor true addr data) (decodeWrite addr data)

/-- The four values of a two-bit field. -/
theorem two_bits_cases (x : BitVec 2) : x = 0#2 ∨ x = 1#2 ∨ x = 2#2 ∨ x = 3#2 := by
  revert x
  decide

theorem decode_of_port_host {d : Descriptor} (hp : portOf d = 0#2) : decode d = decodeHost d := if_pos hp

theorem decode_of_port_stream {d : Descriptor} (hp : portOf d = 1#2) : decode d = decodeStream d := by
  simp [decode, hp]

theorem decode_of_port_engine {d : Descriptor} (hp : portOf d = 3#2) : decode d = .engineStep := by
  simp [decode, hp]

theorem decode_of_port_reserved {d : Descriptor} (hp : portOf d = 2#2) : decode d = .refusedPort := by
  simp [decode, hp]

theorem decode_of_badKind {d : Descriptor} (hp : portOf d = 1#2) (hk : kindOf d = 3#2) :
    decode d = .refusedStreamKind := by
  rw [decode_of_port_stream hp, decodeStream, hk]
  rfl

theorem decode_of_badBit {d : Descriptor} (hp : portOf d = 0#2) (hr : hostRsvOf d = true) :
    decode d = .refusedHostRsv := by
  rw [decode_of_port_host hp]
  exact if_pos hr

theorem decode_of_misaligned0 {d : Descriptor} (hp : portOf d = 0#2) (hr : hostRsvOf d = false)
    (h0 : (addrOf d).getLsbD 0 = true) : decode d = .refusedMisalignedA0 := by
  rw [decode_of_port_host hp, decodeHost, hr, h0]
  rfl

theorem decode_of_misaligned1 {d : Descriptor} (hp : portOf d = 0#2) (hr : hostRsvOf d = false)
    (h0 : (addrOf d).getLsbD 0 = false) (h1 : (addrOf d).extractLsb' 0 2 = 2#2) :
    decode d = .refusedMisalignedA1 := by
  rw [decode_of_port_host hp, decodeHost, hr, h0, h1]
  rfl

theorem decoded_host {d : Descriptor} (hp : portOf d = 0#2) : Decoded d (decodeHost d) := by
  unfold decodeHost
  split
  case isTrue hr => exact .badBit hp hr
  case isFalse hr =>
    have hr := Bool.eq_false_iff.2 hr
    split
    case isTrue h0 => exact .misaligned0 hp hr h0
    case isFalse h0 =>
      split
      case isTrue h1 => exact .misaligned1 hp hr h1
      case isFalse h1 =>
        have aligned := aligned_of_bits (Bool.eq_false_iff.2 h0) h1
        have hd := eq_hostDescriptor hp hr
        cases hw : writeOf d with
        | true => rw [hw] at hd; nth_rw 1 [hd]; exact .write aligned
        | false => rw [hw] at hd; nth_rw 1 [hd]; exact .read aligned

theorem decoded_stream {d : Descriptor} (hp : portOf d = 1#2) : Decoded d (decodeStream d) := by
  unfold decodeStream
  obtain hk | hk | hk | hk := two_bits_cases (kindOf d) <;> rw [hk]
  · exact .byte hp hk
  · exact .timeout hp hk
  · exact .fault hp hk
  · exact .badKind hp hk

theorem decoded (d : Descriptor) : Decoded d (decode d) := by
  obtain hp | hp | hp | hp := two_bits_cases (portOf d)
  · rw [decode_of_port_host hp]; exact decoded_host hp
  · rw [decode_of_port_stream hp]; exact decoded_stream hp
  · rw [decode_of_port_reserved hp]; exact .badPort hp
  · rw [decode_of_port_engine hp]; exact .engine hp

/-! ## Well-formedness (R84) -/

theorem wellFormed_decodeRead {addr : Offset} (aligned : addr.toNat % 4 = 0) :
    (decodeRead addr).wellFormed = true := by
  obtain hreg | ⟨k, rfl⟩ | hun := aligned_cases aligned
  · obtain rfl | rfl | rfl | rfl | rfl | rfl | rfl | rfl | rfl | rfl | rfl | rfl := hreg <;> rfl
  · rw [decodeRead_window]; rfl
  · rw [decodeRead_unmapped hun]; exact hun

theorem wellFormed_decodeCommand (code : BitVec 4) : (decodeCommand code).wellFormed = true := by
  obtain ⟨-, hd⟩ | ⟨-, hd⟩ | ⟨-, hd⟩ | ⟨hc, hd⟩ := decodeCommand_cases code <;> rw [hd]
  case inr.inr.inr => exact hc
  all_goals rfl

theorem wellFormed_decodeWrite {addr : Offset} (data : Word) (aligned : addr.toNat % 4 = 0) :
    (decodeWrite addr data).wellFormed = true := by
  obtain hreg | ⟨k, rfl⟩ | hun := aligned_cases aligned
  · obtain rfl | rfl | rfl | rfl | rfl | rfl | rfl | rfl | rfl | rfl | rfl | rfl := hreg
    case inr.inr.inl => exact wellFormed_decodeCommand (codeOf data)
    all_goals rfl
  · rw [decodeWrite_window]; rfl
  · rw [decodeWrite_unmapped data hun]; exact hun

theorem Decoded.wellFormed {d : Descriptor} {i : Instr} (h : Decoded d i) : i.wellFormed = true := by
  cases h with
  | read aligned => exact wellFormed_decodeRead aligned
  | write aligned => exact wellFormed_decodeWrite _ aligned
  | _ => rfl

/-- Settles O5: an aligned offset that is no register's and no window word's is unmapped, and a command's code that
is no command's is reserved. -/
theorem decodedOperationsAreWellFormed : Obligations.DecodedOperationsAreWellFormed := by
  unfold Obligations.DecodedOperationsAreWellFormed
  exact fun d => (decoded d).wellFormed

/-! ## Operands (R81, R82, R87) -/

/-- The operands of `i` are the fields of `d` that the formats name. -/
def Instr.operandsIn (d : Descriptor) : Instr → Prop
  | .wrCtrl data | .wrStatus data | .wrIrqEn data | .wrFrameCfg data | .wrPattern0 data | .wrPattern1 data
  | .wrTotalLen data | .wrMaxLen data | .wrLenCfg data | .wrFrameLen data | .wrCaps data => data = dataOf d
  | .cmdReserved code => code = codeOf (dataOf d)
  | .rdFrameWin k => windowOffset k = addrOf d
  | .wrFrameWin k data => windowOffset k = addrOf d ∧ data = dataOf d
  | .rdUnmapped addr => addr = addrOf d
  | .wrUnmapped addr data => addr = addrOf d ∧ data = dataOf d
  | .rxByte b => b = byteOf d
  | _ => True

theorem operandsIn_read {addr : Offset} (data : Word) (aligned : addr.toNat % 4 = 0) :
    (decodeRead addr).operandsIn (hostDescriptor false addr data) := by
  obtain hreg | ⟨k, rfl⟩ | hun := aligned_cases aligned
  · obtain rfl | rfl | rfl | rfl | rfl | rfl | rfl | rfl | rfl | rfl | rfl | rfl := hreg <;> trivial
  · rw [decodeRead_window]; exact (addrOf_host _ _ _).symm
  · rw [decodeRead_unmapped hun]; exact (addrOf_host _ _ _).symm

theorem operandsIn_command {d : Descriptor} {data : Word} (h : data = dataOf d) :
    (decodeCommand (codeOf data)).operandsIn d := by
  obtain ⟨-, hd⟩ | ⟨-, hd⟩ | ⟨-, hd⟩ | ⟨-, hd⟩ := decodeCommand_cases (codeOf data) <;> rw [hd]
  case inr.inr.inr => exact congrArg codeOf h
  all_goals trivial

theorem operandsIn_write {addr : Offset} (data : Word) (aligned : addr.toNat % 4 = 0) :
    (decodeWrite addr data).operandsIn (hostDescriptor true addr data) := by
  have haddr := (addrOf_host true addr data).symm
  have hdata := (dataOf_host true addr data).symm
  obtain hreg | ⟨k, rfl⟩ | hun := aligned_cases aligned
  · obtain rfl | rfl | rfl | rfl | rfl | rfl | rfl | rfl | rfl | rfl | rfl | rfl := hreg
    case inr.inr.inl => exact operandsIn_command hdata
    all_goals exact hdata
  · rw [decodeWrite_window]; exact ⟨haddr, hdata⟩
  · rw [decodeWrite_unmapped data hun]; exact ⟨haddr, hdata⟩

theorem Decoded.operandsIn {d : Descriptor} {i : Instr} (h : Decoded d i) : i.operandsIn d := by
  cases h with
  | read aligned => exact operandsIn_read _ aligned
  | write aligned => exact operandsIn_write _ aligned
  | byte => rfl
  | _ => trivial

theorem operandsIn_of_decode {d : Descriptor} {i : Instr} (h : decode d = i) : i.operandsIn d :=
  h ▸ (decoded d).operandsIn

/-- Settles O3: the operands are fields of the descriptor, and a field is its bits by division. -/
theorem operandsAreTheNamedBits : Obligations.OperandsAreTheNamedBits := by
  unfold Obligations.OperandsAreTheNamedBits
  intro d
  have hdata {data : Word} (h : data = dataOf d) : data.toNat = d.toNat % 2 ^ 32 := h ▸ dataOf_toNat d
  have hwin {k : BitVec 8} (h : windowOffset k = addrOf d) : d.toNat / 2 ^ 32 % 2 ^ 12 = 0x400 + 4 * k.toNat := by
    rw [← addrOf_toNat, ← h, windowOffset_toNat]
  have haddr {a : Offset} (h : a = addrOf d) : a.toNat = d.toNat / 2 ^ 32 % 2 ^ 12 := h ▸ addrOf_toNat d
  refine ⟨fun b h => ?_, fun data h => ?_, fun code h => ?_, fun k h => ?_, fun a h => ?_⟩
  · rw [operandsIn_of_decode h, byteOf_toNat]
  · obtain h | h | h | h | h | h | h | h | h | h | h | ⟨k, h⟩ | ⟨a, h⟩ := h
    iterate 11 exact hdata (operandsIn_of_decode h)
    · exact hdata (operandsIn_of_decode h).2
    · exact hdata (operandsIn_of_decode h).2
  · rw [operandsIn_of_decode h, codeOf_toNat, dataOf_toNat]
    omega
  · obtain h | ⟨data, h⟩ := h
    · exact hwin (operandsIn_of_decode h)
    · exact hwin (operandsIn_of_decode h).1
  · obtain h | ⟨data, h⟩ := h
    · exact haddr (operandsIn_of_decode h)
    · exact haddr (operandsIn_of_decode h).1

/-! ## Ignored bits (R81 to R83, R87) -/

/-- Descriptors that agree from bit 32 up have the same `PORT`, `W`, bit 44 and `ADDR`. -/
theorem host_fields_congr {d d' : Descriptor} (h : d.toNat / 2 ^ 32 = d'.toNat / 2 ^ 32) :
    portOf d = portOf d' ∧ writeOf d = writeOf d' ∧ hostRsvOf d = hostRsvOf d' ∧ addrOf d = addrOf d' := by
  have field {n : Nat} (hn : 32 ≤ n) : d.toNat / 2 ^ n = d'.toNat / 2 ^ n := by
    obtain ⟨m, rfl⟩ := Nat.exists_eq_add_of_le hn
    rw [Nat.pow_add, ← Nat.div_div_eq_div_mul, h, Nat.div_div_eq_div_mul]
  refine ⟨BitVec.eq_of_toNat_eq ?_, ?_, ?_, BitVec.eq_of_toNat_eq ?_⟩
  · rw [portOf_toNat, portOf_toNat, field (by omega)]
  · rw [writeOf, writeOf, getLsbD_eq_div, getLsbD_eq_div, field (by omega)]
  · rw [hostRsvOf, hostRsvOf, getLsbD_eq_div, getLsbD_eq_div, field (by omega)]
  · rw [addrOf_toNat, addrOf_toNat, h]

/-- A write to `CMD` decodes by its code. -/
theorem decode_command {d : Descriptor} (h : d.toNat / 2 ^ 32 = 0x2008) :
    decode d = decodeCommand (codeOf (dataOf d)) := by
  have hd : d = hostDescriptor true 0x008#12 (dataOf d) := by
    apply BitVec.eq_of_toNat_eq
    rw [hostDescriptor_toNat, dataOf_toNat, Bool.toNat_true, BitVec.toNat_ofNat]
    omega
  nth_rw 1 [hd]
  exact decode_host _ (by decide)

/-- Settles O4: decoding looks at no field that the formats call ignored. -/
theorem ignoredBitsDoNotMatter : Obligations.IgnoredBitsDoNotMatter := by
  unfold Obligations.IgnoredBitsDoNotMatter
  intro d d'
  refine ⟨fun h hw hp => ?_, fun hp h hb => ?_, fun hp hp' => ?_, fun h h' hc => ?_⟩
  · obtain ⟨hport, hwrite, hrsv, haddr⟩ := host_fields_congr h
    have hw : writeOf d = false := hw
    rw [decode_of_port_host hp, decode_of_port_host (hport ▸ hp)]
    simp only [decodeHost, ← hwrite, ← hrsv, ← haddr, hw, Bool.false_eq_true, if_false]
  · have hkind : kindOf d = kindOf d' := BitVec.eq_of_toNat_eq (by rw [kindOf_toNat, kindOf_toNat, h])
    have hp' : portOf d' = 1#2 := by
      rw [← hp]
      apply BitVec.eq_of_toNat_eq
      rw [portOf_toNat, portOf_toNat]
      omega
    rw [decode_of_port_stream hp, decode_of_port_stream hp', decodeStream, decodeStream, ← hkind]
    refine if_ctx_congr Iff.rfl (fun hk => ?_) fun _ => rfl
    exact congrArg _ (BitVec.eq_of_toNat_eq (by rw [byteOf_toNat, byteOf_toNat, hb hk]))
  · rw [decode_of_port_engine hp, decode_of_port_engine hp']
  · have hcode : codeOf (dataOf d) = codeOf (dataOf d') := by
      apply BitVec.eq_of_toNat_eq
      simp only [codeOf_toNat, dataOf_toNat]
      omega
    rw [decode_command h, decode_command h', hcode]

end Sys2Proof
end

section
/-! PROOF. The opcode table (R84, R85): the decoded operation's row is the matching row of lowest priority number. -/
namespace Sys2Proof

/-! ## Acceptance by fields (R85) -/

/-- Descriptors with the same fields of format HOST are the same. -/
theorem descriptor_ext {d e : Descriptor} (hp : portOf d = portOf e) (hw : writeOf d = writeOf e)
    (hr : hostRsvOf d = hostRsvOf e) (ha : addrOf d = addrOf e) (hd : dataOf d = dataOf e) : d = e := by
  have hp := congrArg BitVec.toNat hp
  have ha := congrArg BitVec.toNat ha
  have hd := congrArg BitVec.toNat hd
  rw [portOf_toNat, portOf_toNat] at hp
  rw [addrOf_toNat, addrOf_toNat] at ha
  rw [dataOf_toNat, dataOf_toNat] at hd
  rw [writeOf, writeOf, getLsbD_eq_div, getLsbD_eq_div, decide_eq_decide] at hw
  rw [hostRsvOf, hostRsvOf, getLsbD_eq_div, getLsbD_eq_div, decide_eq_decide] at hr
  exact BitVec.eq_of_toNat_eq (by omega)

/-- A row accepts a descriptor field by field. -/
theorem accepts_iff_fields (r : OpcodeRow) (d : Descriptor) : r.accepts d = true ↔
    portOf d &&& portOf r.mask = portOf r.pattern ∧ (writeOf d && writeOf r.mask) = writeOf r.pattern ∧
      (hostRsvOf d && hostRsvOf r.mask) = hostRsvOf r.pattern ∧ addrOf d &&& addrOf r.mask = addrOf r.pattern ∧
      dataOf d &&& dataOf r.mask = dataOf r.pattern := by
  have hp : portOf (d &&& r.mask) = portOf d &&& portOf r.mask := BitVec.extractLsb'_and
  have hw : writeOf (d &&& r.mask) = (writeOf d && writeOf r.mask) := BitVec.getLsbD_and
  have hr : hostRsvOf (d &&& r.mask) = (hostRsvOf d && hostRsvOf r.mask) := BitVec.getLsbD_and
  have ha : addrOf (d &&& r.mask) = addrOf d &&& addrOf r.mask := BitVec.extractLsb'_and
  have hd : dataOf (d &&& r.mask) = dataOf d &&& dataOf r.mask := BitVec.extractLsb'_and
  rw [OpcodeRow.accepts, decide_eq_true_iff, ← hp, ← hw, ← hr, ← ha, ← hd]
  exact ⟨fun h => ⟨congrArg _ h, congrArg _ h, congrArg _ h, congrArg _ h, congrArg _ h⟩,
    fun ⟨h1, h2, h3, h4, h5⟩ => descriptor_ext h1 h2 h3 h4 h5⟩

/-! ## Facts of the table (R84, R85) -/

/-- Two rows of one priority, or of the priorities 0 and 1, disagree on a bit that both fix. -/
abbrev OpcodeRow.Apart (r r' : OpcodeRow) : Prop :=
  (r.priority = r'.priority ∨ r.priority ≤ 1 ∧ r'.priority ≤ 1) → r.pattern &&& r'.mask ≠ r'.pattern &&& r.mask

theorem OpcodeRow.apart_symm : Std.Symm OpcodeRow.Apart :=
  ⟨fun _ _ h hp => (h (hp.imp Eq.symm And.symm)).symm⟩

theorem opcodeTable_apart : opcodeTable.Pairwise OpcodeRow.Apart := by decide

/-- Only the three commands' rows, which are writes, look at DATA, and only at `CODE`. -/
theorem opcodeTable_data : ∀ r ∈ opcodeTable,
    dataOf r.mask = 0#32 ∨ dataOf r.mask = 0xF#32 ∧ writeOf r.pattern = true := by
  decide

/-- Every row but three is a refusal or a specific row. -/
theorem opcodeTable_late : ∀ r ∈ opcodeTable,
    ["CMD_RESERVED", "RD_UNMAPPED", "WR_UNMAPPED"].contains r.mnemonic = true ∨ r.priority ≤ 1 := by
  decide

/-- Before the catch-alls, a row asks for another `PORT`, for bit 44, for a misaligned offset, for a register's offset
or for the window. -/
theorem opcodeTable_offsets : ∀ r ∈ opcodeTable, 3 ≤ r.priority ∨ portOf r.pattern ≠ 0#2 ∨
    hostRsvOf r.pattern = true ∨ (addrOf r.pattern).extractLsb' 0 2 ≠ 0#2 ∨
    (addrOf r.mask = 0xFFF#12 ∧ (addrOf r.pattern).toNat < 0x030) ∨
    (addrOf r.mask = 0xC03#12 ∧ addrOf r.pattern = 0x400#12) := by
  decide

/-- The specific rows of `CMD` writes name no reserved code. -/
theorem opcodeTable_commands : ∀ code, reservedCode code = true → ∀ r ∈ opcodeTable,
    r.accepts (hostDescriptor true 0x008#12 (0#28 ++ code)) = true → 2 ≤ r.priority := by
  decide

/-! ## The row of lowest priority (R85) -/

/-- Two rows of one priority that accept one descriptor are the same row, and so are two refusals or specific rows. -/
theorem row_unique {d : Descriptor} {r r' : OpcodeRow} (hr : r ∈ opcodeTable) (hr' : r' ∈ opcodeTable)
    (ha : r.accepts d = true) (ha' : r'.accepts d = true)
    (hp : r.priority = r'.priority ∨ r.priority ≤ 1 ∧ r'.priority ≤ 1) : r = r' := by
  by_contra hne
  have symm := OpcodeRow.apart_symm
  have apart := opcodeTable_apart.forall hr hr' hne hp
  have ha := of_decide_eq_true ha
  have ha' := of_decide_eq_true ha'
  rw [← ha, ← ha', BitVec.and_assoc, BitVec.and_assoc, BitVec.and_comm r.mask] at apart
  exact apart rfl

/-- The matching row of lowest priority number bears the mnemonic `m`. -/
def LowestRow (d : Descriptor) (m : String) : Prop :=
  ∃ r ∈ opcodeTable, r.accepts d = true ∧ r.mnemonic = m ∧
    ∀ r' ∈ opcodeTable, r'.accepts d = true → r.priority ≤ r'.priority

/-- A matching refusal or specific row is the lowest. -/
theorem lowestRow_of_early {d : Descriptor} {r : OpcodeRow} (hr : r ∈ opcodeTable) (ha : r.accepts d = true)
    (hp : r.priority ≤ 1) : LowestRow d r.mnemonic := by
  refine ⟨r, hr, ha, rfl, fun r' hr' ha' => ?_⟩
  by_contra hlt
  have heq := row_unique hr hr' ha ha' (.inr ⟨hp, by omega⟩)
  rw [heq] at hlt
  exact hlt (Nat.le_refl _)

/-- A mask of the low `n` bits keeps the value mod 2^n. -/
theorem and_low_toNat {w n : Nat} (x m : BitVec w) (hm : m.toNat = 2 ^ n - 1) : (x &&& m).toNat = x.toNat % 2 ^ n := by
  rw [BitVec.toNat_and, hm, Nat.and_two_pow_sub_one_eq_mod]

/-- The rows of host accesses look at no bit of DATA, or at the four bits of a command's code. -/
theorem accepts_host_congr {r : OpcodeRow} (hr : r ∈ opcodeTable) {w : Bool} {addr : Offset} {data data' : Word}
    (hd : w = true → codeOf data = codeOf data') (ha : r.accepts (hostDescriptor w addr data) = true) :
    r.accepts (hostDescriptor w addr data') = true := by
  rw [accepts_iff_fields] at ha ⊢
  simp only [portOf_host, writeOf_host, hostRsvOf_host, addrOf_host, dataOf_host] at ha ⊢
  obtain ⟨hport, hwrite, hrsv, haddr, hdata⟩ := ha
  refine ⟨hport, hwrite, hrsv, haddr, ?_⟩
  rw [← hdata]
  obtain hm | ⟨hm, hpat⟩ := opcodeTable_data r hr
  · rw [hm, BitVec.and_zero, BitVec.and_zero]
  · rw [hpat, Bool.and_eq_true] at hwrite
    have hcode := congrArg BitVec.toNat (hd hwrite.1)
    rw [codeOf_toNat, codeOf_toNat] at hcode
    apply BitVec.eq_of_toNat_eq
    rw [hm, and_low_toNat (n := 4) _ _ rfl, and_low_toNat (n := 4) _ _ rfl]
    exact hcode.symm

theorem accepts_of_port {r : OpcodeRow} {d e : Descriptor} (hm : r.mask = 0xC00000000000#48)
    (hp : portOf d = portOf e) (ha : r.accepts e = true) : r.accepts d = true := by
  have hs : 0xC00000000000#48 = BitVec.allOnes 48 <<< 46 := by decide
  rw [OpcodeRow.accepts, hm, hs] at ha ⊢
  rw [Laws.and_high_eq (e := e) (by rw [← portOf_toNat, ← portOf_toNat, hp])]
  exact ha

theorem accepts_of_kind {r : OpcodeRow} {d e : Descriptor} (hm : r.mask = 0xF00000000000#48)
    (hp : portOf d = portOf e) (hk : kindOf d = kindOf e) (ha : r.accepts e = true) : r.accepts d = true := by
  have hs : 0xF00000000000#48 = BitVec.allOnes 48 <<< 44 := by decide
  have hp := congrArg BitVec.toNat hp
  have hk := congrArg BitVec.toNat hk
  rw [portOf_toNat, portOf_toNat] at hp
  rw [kindOf_toNat, kindOf_toNat] at hk
  rw [OpcodeRow.accepts, hm, hs] at ha ⊢
  rw [Laws.and_high_eq (e := e) (by omega)]
  exact ha

/-- Only the catch-alls accept an access to an unmapped offset. -/
theorem priority_of_unmapped {r : OpcodeRow} (hr : r ∈ opcodeTable) {w : Bool} {addr : Offset} {data : Word}
    (hun : addr.unmapped = true) (ha : r.accepts (hostDescriptor w addr data) = true) : 3 ≤ r.priority := by
  obtain ⟨aligned, hout, hne⟩ := unmapped_facts hun
  obtain ⟨-, hlow⟩ := aligned_bits aligned
  rw [accepts_iff_fields] at ha
  simp only [portOf_host, hostRsvOf_host, addrOf_host] at ha
  obtain ⟨hport, -, hrsv, haddr, -⟩ := ha
  obtain hp | hp | hp | hp | ⟨hm, hp⟩ | ⟨hm, hp⟩ := opcodeTable_offsets r hr
  · exact hp
  · exact absurd (hport.symm.trans BitVec.zero_and) hp
  · exact absurd (hrsv.trans hp) nofun
  · rw [← haddr, BitVec.extractLsb'_and, hlow] at hp
    exact absurd BitVec.zero_and hp
  · have hall : addr &&& 0xFFF#12 = addr := BitVec.and_allOnes
    rw [hm, hall] at haddr
    exact absurd haddr (hne _ hp)
  · have hin : addr.extractLsb' 10 2 &&& 3#2 = 1#2 := by
      have := congrArg (BitVec.extractLsb' 10 2) haddr
      rwa [hm, hp, BitVec.extractLsb'_and] at this
    have hall : addr.extractLsb' 10 2 &&& 3#2 = addr.extractLsb' 10 2 := BitVec.and_allOnes
    rw [hall] at hin
    rw [inWindow, decide_eq_false_iff_not] at hout
    exact absurd hin hout

/-- Only `CMD_RESERVED` and a catch-all accept a `CMD` write of a reserved code. -/
theorem priority_of_reserved {r : OpcodeRow} (hr : r ∈ opcodeTable) {data : Word}
    (hc : reservedCode (codeOf data) = true) (ha : r.accepts (hostDescriptor true 0x008#12 data) = true) :
    2 ≤ r.priority := by
  exact opcodeTable_commands _ hc r hr (accepts_host_congr hr (fun _ => (codeOf_append _ _).symm) ha)

/-! ## Decoding takes the lowest row -/

theorem encodeInRow (i : Instr) : Laws.EncodeInRow.Statement i := by
  open Laws.EncodeInRow in
  cases i
  exacts [rdCtrl, wrCtrl _, rdStatus, wrStatus _, rdCmd, cmdAccept, cmdReject, cmdSoftReset, cmdReserved _, rdIrqEn,
    wrIrqEn _, rdFrameCfg, wrFrameCfg _, rdPattern0, wrPattern0 _, rdPattern1, wrPattern1 _, rdTotalLen,
    wrTotalLen _, rdMaxLen, wrMaxLen _, rdLenCfg, wrLenCfg _, rdFrameLen, wrFrameLen _, rdCaps, wrCaps _,
    rdFrameWin _, wrFrameWin _ _, rdUnmapped _, wrUnmapped _ _, rxByte _, rxTimeout, rxFault, engineStep,
    refusedPort, refusedStreamKind, refusedHostRsv, refusedMisalignedA0, refusedMisalignedA1]

/-- The row of a refusal or a specific operation is the lowest of every descriptor that is accepted wherever the
operation's own descriptor is. -/
theorem lowestRow_of_encode {d : Descriptor} {i : Instr}
    (hi : ["CMD_RESERVED", "RD_UNMAPPED", "WR_UNMAPPED"].contains i.mnemonic = false)
    (h : ∀ r ∈ opcodeTable, r.accepts (encode i) = true → r.accepts d = true) : LowestRow d i.mnemonic := by
  obtain ⟨r, hr, hm, ha⟩ := encodeInRow i
  rw [← hm] at hi ⊢
  exact lowestRow_of_early hr (h r hr ha) ((opcodeTable_late r hr).resolve_left (Bool.eq_false_iff.1 hi))

theorem lowestRow_rdUnmapped {addr : Offset} (data : Word) (hun : addr.unmapped = true) :
    LowestRow (hostDescriptor false addr data) "RD_UNMAPPED" :=
  ⟨⟨"RD_UNMAPPED", 0x000000000000#48, 0xE00000000000#48, 3⟩, by decide,
    Laws.accepts_any addr data rfl (by decide), rfl, fun _ hr ha => priority_of_unmapped hr hun ha⟩

theorem lowestRow_wrUnmapped {addr : Offset} (data : Word) (hun : addr.unmapped = true) :
    LowestRow (hostDescriptor true addr data) "WR_UNMAPPED" :=
  ⟨⟨"WR_UNMAPPED", 0x200000000000#48, 0xE00000000000#48, 3⟩, by decide,
    Laws.accepts_any addr data rfl (by decide), rfl, fun _ hr ha => priority_of_unmapped hr hun ha⟩

theorem lowestRow_cmdReserved {data : Word} (hc : reservedCode (codeOf data) = true) :
    LowestRow (hostDescriptor true 0x008#12 data) "CMD_RESERVED" :=
  ⟨⟨"CMD_RESERVED", 0x200800000000#48, 0xFFFF00000000#48, 2⟩, by decide,
    Laws.accepts_access data rfl (by decide), rfl, fun _ hr ha => priority_of_reserved hr hc ha⟩

theorem lowestRow_read {addr : Offset} (data : Word) (aligned : addr.toNat % 4 = 0) :
    LowestRow (hostDescriptor false addr data) (decodeRead addr).mnemonic := by
  obtain hreg | ⟨k, rfl⟩ | hun := aligned_cases aligned
  · obtain rfl | rfl | rfl | rfl | rfl | rfl | rfl | rfl | rfl | rfl | rfl | rfl := hreg <;>
      exact lowestRow_of_encode rfl fun r hr => accepts_host_congr hr nofun
  · rw [decodeRead_window]
    exact lowestRow_of_encode (i := .rdFrameWin k) rfl fun r hr => accepts_host_congr hr nofun
  · rw [decodeRead_unmapped hun]
    exact lowestRow_rdUnmapped data hun

theorem lowestRow_command (data : Word) :
    LowestRow (hostDescriptor true 0x008#12 data) (decodeCommand (codeOf data)).mnemonic := by
  obtain ⟨hc, hd⟩ | ⟨hc, hd⟩ | ⟨hc, hd⟩ | ⟨hc, hd⟩ := decodeCommand_cases (codeOf data) <;> rw [hd]
  case inr.inr.inr => exact lowestRow_cmdReserved hc
  all_goals exact lowestRow_of_encode rfl fun r hr => accepts_host_congr hr fun _ => hc.symm

theorem lowestRow_write {addr : Offset} (data : Word) (aligned : addr.toNat % 4 = 0) :
    LowestRow (hostDescriptor true addr data) (decodeWrite addr data).mnemonic := by
  obtain hreg | ⟨k, rfl⟩ | hun := aligned_cases aligned
  · obtain rfl | rfl | rfl | rfl | rfl | rfl | rfl | rfl | rfl | rfl | rfl | rfl := hreg
    case inr.inr.inl => exact lowestRow_command data
    all_goals exact lowestRow_of_encode (i := decodeWrite _ data) rfl fun _ _ => id
  · rw [decodeWrite_window]
    exact lowestRow_of_encode (i := .wrFrameWin k data) rfl fun _ _ => id
  · rw [decodeWrite_unmapped data hun]
    exact lowestRow_wrUnmapped data hun

theorem lowestRow_badBit {d : Descriptor} (hp : portOf d = 0#2) (hr : hostRsvOf d = true) :
    LowestRow d "REFUSED_HOST_RSV" := by
  refine lowestRow_of_early (r := ⟨_, 0x100000000000#48, 0xD00000000000#48, 0⟩) (by decide) ?_ (by decide)
  rw [accepts_iff_fields, hp, hr]
  exact ⟨rfl, Bool.and_false _, rfl, BitVec.and_zero, BitVec.and_zero⟩

theorem lowestRow_misaligned0 {d : Descriptor} (hp : portOf d = 0#2) (hr : hostRsvOf d = false)
    (h : (addrOf d).getLsbD 0 = true) : LowestRow d "REFUSED_MISALIGNED_A0" := by
  refine lowestRow_of_early (r := ⟨_, 0x000100000000#48, 0xD00100000000#48, 0⟩) (by decide) ?_ (by decide)
  rw [getLsbD_eq_div, decide_eq_true_iff, Nat.pow_zero, Nat.div_one] at h
  rw [accepts_iff_fields, hp, hr]
  refine ⟨rfl, Bool.and_false _, rfl, BitVec.eq_of_toNat_eq ?_, BitVec.and_zero⟩
  exact (and_low_toNat (n := 1) _ _ rfl).trans h

theorem lowestRow_misaligned1 {d : Descriptor} (hp : portOf d = 0#2) (hr : hostRsvOf d = false)
    (h : (addrOf d).extractLsb' 0 2 = 2#2) : LowestRow d "REFUSED_MISALIGNED_A1" := by
  refine lowestRow_of_early (r := ⟨_, 0x000200000000#48, 0xD00300000000#48, 0⟩) (by decide) ?_ (by decide)
  have h := congrArg BitVec.toNat h
  rw [extract_toNat, Nat.pow_zero, Nat.div_one] at h
  rw [accepts_iff_fields, hp, hr]
  refine ⟨rfl, Bool.and_false _, rfl, BitVec.eq_of_toNat_eq ?_, BitVec.and_zero⟩
  exact (and_low_toNat (n := 2) _ _ rfl).trans h

theorem Decoded.lowestRow {d : Descriptor} {i : Instr} (h : Decoded d i) : LowestRow d i.mnemonic := by
  cases h with
  | read aligned => exact lowestRow_read _ aligned
  | write aligned => exact lowestRow_write _ aligned
  | badBit port rsv => exact lowestRow_badBit port rsv
  | misaligned0 port rsv bit => exact lowestRow_misaligned0 port rsv bit
  | misaligned1 port rsv bits => exact lowestRow_misaligned1 port rsv bits
  | badPort port =>
    exact lowestRow_of_early (r := ⟨"REFUSED_PORT", 0x800000000000#48, 0xC00000000000#48, 0⟩) (by decide)
      (accepts_of_port rfl (e := encode .refusedPort) port (by decide)) (by decide)
  | engine port =>
    exact lowestRow_of_early (r := ⟨"ENGINE_STEP", 0xC00000000000#48, 0xC00000000000#48, 1⟩) (by decide)
      (accepts_of_port rfl (e := encode .engineStep) port (by decide)) (by decide)
  | badKind port kind =>
    exact lowestRow_of_early (r := ⟨"REFUSED_STREAM_KIND", 0x700000000000#48, 0xF00000000000#48, 0⟩) (by decide)
      (accepts_of_kind rfl (e := encode .refusedStreamKind) port kind (by decide)) (by decide)
  | byte port kind =>
    exact lowestRow_of_early (r := ⟨"RX_BYTE", 0x400000000000#48, 0xF00000000000#48, 1⟩) (by decide)
      (accepts_of_kind rfl (e := encode (.rxByte 0#8)) port kind (by decide)) (by decide)
  | timeout port kind =>
    exact lowestRow_of_early (r := ⟨"RX_TIMEOUT", 0x500000000000#48, 0xF00000000000#48, 1⟩) (by decide)
      (accepts_of_kind rfl (e := encode .rxTimeout) port kind (by decide)) (by decide)
  | fault port kind =>
    exact lowestRow_of_early (r := ⟨"RX_FAULT", 0x600000000000#48, 0xF00000000000#48, 1⟩) (by decide)
      (accepts_of_kind rfl (e := encode .rxFault) port kind (by decide)) (by decide)

/-- Settles O2: the decoded operation's row accepts the descriptor; a refusal or a specific row disagrees with every
other such row on a fixed bit, and the operands say which rows `CMD_RESERVED` and the catch-alls are left with. -/
theorem decodingTakesTheLowestMatchingRow : Obligations.DecodingTakesTheLowestMatchingRow := by
  unfold Obligations.DecodingTakesTheLowestMatchingRow
  exact ⟨fun d => (decoded d).lowestRow, fun d r hr r' hr' ha ha' hp => row_unique hr hr' ha ha' (.inl hp)⟩

end Sys2Proof
end

section
/-! PROOF. The steps of a trace's events (R80, R86, R92, R93): descriptors, refusals, and a `DRAIN`, which comes to an
end because the engine's work is bounded (R130). -/
namespace Sys2Proof.Machine

/-! ## Steps (R80, R86, R92, R93) -/

theorem step_nil {s : State} (h : s.trace = []) : step s = .next s := by
  rw [step, h]

theorem step_descriptor {s : State} {d : Descriptor} {rest : List Event} (h : s.trace = .descriptor d :: rest) :
    step s = exec (decode d) (s.withTrace rest) := by
  rw [step, h]

theorem step_drain_enabled {s : State} {rest : List Event} (h : s.trace = .drain :: rest)
    (he : s.engineEnabled = true) : step s = exec .engineStep s := by
  rw [step, h]
  exact if_pos he

theorem step_drain_done {s : State} {rest : List Event} (h : s.trace = .drain :: rest)
    (he : s.engineEnabled = false) : step s = .next (s.withTrace rest) := by
  rw [step, h]
  exact if_neg (Bool.eq_false_iff.1 he)

/-! ## Refused descriptors (R84, R86) -/

theorem addrOf_bit0 (d : Descriptor) : d.getLsbD 32 = (addrOf d).getLsbD 0 := by
  rw [getLsbD_eq_div, getLsbD_eq_div, addrOf_toNat, decide_eq_decide]
  omega

theorem addrOf_low {d : Descriptor} (h1 : d.getLsbD 33 = true) (h0 : d.getLsbD 32 = false) :
    (addrOf d).extractLsb' 0 2 = 2#2 := by
  rw [getLsbD_eq_div, decide_eq_true_iff] at h1
  rw [getLsbD_eq_div, decide_eq_false_iff_not] at h0
  apply extract_of_div
  rw [addrOf_toNat, BitVec.toNat_ofNat]
  omega

/-- Settles O6: each descriptor is decoded. -/
theorem writtenDescriptorsDecode : Obligations.WrittenDescriptorsDecode := by
  unfold Obligations.WrittenDescriptorsDecode
  decide

/-- Settles O7: the step of a descriptor is its operation's. -/
theorem stepPerformsTheDecodedDescriptor : Obligations.StepPerformsTheDecodedDescriptor := by
  unfold Obligations.StepPerformsTheDecodedDescriptor
  exact fun s d rest h => step_descriptor h

/-- Settles O9: the meaning of each of the five operations is its refusal. -/
theorem refusedOperationsStop : Obligations.RefusedOperationsStop := by
  unfold Obligations.RefusedOperationsStop
  exact fun s => ⟨rfl, rfl, rfl, rfl, rfl⟩

/-- Settles O8: by its bits the descriptor decodes to a refused operation, which has no next state. -/
theorem refusedDescriptorsHaveNoStep : Obligations.RefusedDescriptorsHaveNoStep := by
  unfold Obligations.RefusedDescriptorsHaveNoStep
  intro s d rest h
  have refused {i : Instr} {r : Refusal} (hd : decode d = i) (hx : exec i (s.withTrace rest) = .refused r) :
      step s = .refused r := by
    rw [step_descriptor h, hd, hx]
  have port {p : BitVec 2} (hp : d.toNat / 2 ^ 46 = p.toNat) : portOf d = p :=
    BitVec.eq_of_toNat_eq ((portOf_toNat d).trans hp)
  refine ⟨fun hp => ?_, fun hk => ?_, fun hp hr => ?_, fun hp hr h0 => ?_, fun hp hr h1 h0 => ?_⟩
  · exact refused (decode_of_port_reserved (port hp)) rfl
  · have hkind : kindOf d = 3#2 := BitVec.eq_of_toNat_eq (by rw [kindOf_toNat, hk]; rfl)
    have hport : portOf d = 1#2 := port (by rw [BitVec.toNat_ofNat]; omega)
    exact refused (decode_of_badKind hport hkind) rfl
  · exact refused (decode_of_badBit (port hp) hr) rfl
  · exact refused (decode_of_misaligned0 (port hp) hr (addrOf_bit0 d ▸ h0)) rfl
  · exact refused (decode_of_misaligned1 (port hp) hr (addrOf_bit0 d ▸ h0) (addrOf_low h1 h0)) rfl

/-- Settles O12: the two branches of a `DRAIN`'s step, and the step of an empty trace. -/
theorem drainAndTheEndOfTheTrace : Obligations.DrainAndTheEndOfTheTrace := by
  unfold Obligations.DrainAndTheEndOfTheTrace
  exact fun s => ⟨step_nil, fun rest h => step_drain_enabled h, fun rest h => step_drain_done h⟩

/-! ## The engine's work (R92, R130) -/

/-- An enabled engine step completes, since an enabled block's `FRAME_CFG` is legal (R120). -/
theorem execEngineStep_completes {s : State} (h : s.Inv) (he : s.engineEnabled = true) :
    ∃ t, execEngineStep s = .next t := by
  obtain ⟨hen, -⟩ := s.engineEnabled_iff.1 he
  have hlegal := h.enabled_legal hen
  obtain ⟨-, -, -, -, -, hmode⟩ := State.legal_parts hlegal
  rw [State.legal, Bool.and_eq_true] at hlegal
  simp only [execEngineStep, he, State.examine, hlegal.1, if_true, Bool.not_true, Bool.false_eq_true, if_false]
  split
  · exact ⟨_, rfl⟩
  · cases hm : s.mode with
    | reserved => exact absurd hm hmode
    | _ => exact ⟨_, rfl⟩

/-- A bound on the engine steps left before the next byte: what is left of len(BUF) · Lmax (R130). -/
def State.engineWork (s : State) : Nat := s.buf.length * s.lmax - s.scan

/-- Each engine step is one of those the bound allows: it advances `SCAN`, or drops a byte when `SCAN < Lmax`. -/
theorem engineWork_lt {s t : State} (h : s.Inv) (hx : execEngineStep s = .next t) : t.engineWork < s.engineWork := by
  obtain ⟨he, hshape⟩ := execEngineStep_shape hx
  obtain ⟨hen, hf, hr, hlt⟩ := s.engineEnabled_iff.1 he
  obtain ⟨hscan, -⟩ := h.scan_lt_lmax hen hf hr
  have hlen : s.buf.length ≤ s.buf.length * s.lmax := Nat.le_mul_of_pos_right _ (by omega)
  have advance : s.buf.length * s.lmax - (s.scan + 1) < s.engineWork := by
    unfold State.engineWork
    omega
  have drop : (s.buf.drop 1).length * s.lmax - 0 < s.engineWork := by
    unfold State.engineWork
    rw [List.length_drop, Nat.sub_mul]
    omega
  obtain rfl | rfl | rfl | ⟨c, -, rfl⟩ := hshape
  · exact advance
  · exact advance
  · exact drop
  · exact drop

theorem execEngineStep_trace {s t : State} (hx : execEngineStep s = .next t) : t.trace = s.trace := by
  obtain ⟨-, rfl | rfl | rfl | ⟨c, -, rfl⟩⟩ := execEngineStep_shape hx <;> rfl

theorem engineRun_succ {s t : State} (hx : execEngineStep s = .next t) (k : Nat) :
    engineRun (k + 1) s = engineRun k t := by
  rw [engineRun, show exec .engineStep s = .next t from hx]

/-- From every state that meets the invariant the engine's steps come to an end within the bound, and leave the
trace alone. -/
theorem exists_engineRun_stop {s : State} (h : s.Inv) : ∃ k t, k ≤ s.engineWork ∧ engineRun k s = some t ∧
    t.engineEnabled = false ∧ t.trace = s.trace := by
  cases he : s.engineEnabled with
  | false => exact ⟨0, s, Nat.zero_le _, rfl, he, rfl⟩
  | true =>
    obtain ⟨u, hx⟩ := execEngineStep_completes h he
    have hlt := engineWork_lt h hx
    obtain ⟨k, t, hk, hrun, hstop, htrace⟩ := exists_engineRun_stop (h.engine hx)
    exact ⟨k + 1, t, by omega, (engineRun_succ hx k).trans hrun, hstop, htrace.trans (execEngineStep_trace hx)⟩
termination_by s.engineWork

/-- Settles O55: a `DRAIN` performs the engine steps, of which there are at most len(BUF) · Lmax, and one step more
that takes it off the trace. -/
theorem drainTerminates : Obligations.DrainTerminates := by
  unfold Obligations.DrainTerminates
  intro s rest h htr
  obtain ⟨k, t, hk, hrun, hstop, htrace⟩ := exists_engineRun_stop h
  have hk : k ≤ s.buf.length * s.lmax := hk.trans (Nat.sub_le _ _)
  refine ⟨k + 1, t.withTrace rest, by omega, ?_, rfl, hstop⟩
  exact runSteps_add (runSteps_of_engineRun k s t rest htr hrun) (step_drain_done (htrace.trans htr) hstop)

end Sys2Proof.Machine
end

section
/-! PROOF. The configuration registers read back what was written (R88, D37), and the written form of operations stands
for their descriptors (R91 to R93). -/
namespace Sys2Proof.Machine

/-! ## Reading back (R88, D37) -/

/-- Masking field by field: the field `z` is kept. -/
theorem append_keep {n m : Nat} {x mask y : BitVec n} (h : y = x &&& mask) (z : BitVec m) :
    y ++ z = (x ++ z) &&& (mask ++ BitVec.allOnes m) := by
  rw [BitVec.and_append, BitVec.and_allOnes, h]

/-- Masking field by field: the field `z` is cleared. -/
theorem append_clear {n m : Nat} {x mask y : BitVec n} (h : y = x &&& mask) (z : BitVec m) :
    y ++ 0#m = (x ++ z) &&& (mask ++ 0#m) := by
  rw [BitVec.and_append, BitVec.and_zero, h]

/-- The fields of FRAME_CFG (R27) are the bits its mask keeps. -/
theorem keep_frameCfg (data : Word) :
    0#24 ++ data.extractLsb' 4 4 ++ 0#2 ++ data.extractLsb' 0 2 = data &&& 0x000000F3#32 := by
  have hdata : data.extractLsb' 8 24 ++ data.extractLsb' 4 4 ++ data.extractLsb' 2 2 ++
      data.extractLsb' 0 2 = data := by
    apply BitVec.eq_of_toNat_eq
    simp only [toNat_append_add, extract_toNat]
    omega
  have hmask : 0#24 ++ BitVec.allOnes 4 ++ 0#2 ++ BitVec.allOnes 2 = 0x000000F3#32 := by decide
  rw [← hmask]
  exact (append_keep (append_clear (append_keep BitVec.and_zero.symm _) _) _).trans (congrArg (· &&& _) hdata)

/-- The fields of LEN_CFG (R31) are the bits its mask keeps. -/
theorem keep_lenCfg (data : Word) :
    0#8 ++ data.extractLsb' 16 8 ++ 0#7 ++ data.extractLsb' 8 1 ++ data.extractLsb' 0 8 = data &&& 0x00FF01FF#32 := by
  have hdata : data.extractLsb' 24 8 ++ data.extractLsb' 16 8 ++ data.extractLsb' 9 7 ++ data.extractLsb' 8 1 ++
      data.extractLsb' 0 8 = data := by
    apply BitVec.eq_of_toNat_eq
    simp only [toNat_append_add, extract_toNat]
    omega
  have hmask : 0#8 ++ BitVec.allOnes 8 ++ 0#7 ++ BitVec.allOnes 1 ++ BitVec.allOnes 8 = 0x00FF01FF#32 := by decide
  rw [← hmask]
  exact (append_keep (append_keep (append_clear (append_keep BitVec.and_zero.symm _) _) _) _).trans
    (congrArg (· &&& _) hdata)

theorem keep_low {n m : Nat} (data : BitVec (n + m)) :
    0#n ++ data.extractLsb' 0 m = data &&& (0#n ++ BitVec.allOnes m) := by
  have hdata : data.extractLsb' m n ++ data.extractLsb' 0 m = data := by
    apply BitVec.eq_of_toNat_eq
    rw [toNat_append_add, extract_toNat, extract_toNat, Nat.pow_zero, Nat.div_one, Nat.mod_eq_of_lt (a := _ / _)]
    · exact Nat.div_add_mod' _ _
    · exact Nat.div_lt_of_lt_mul ((Nat.pow_add' 2 n m) ▸ data.isLt)
  exact (append_keep BitVec.and_zero.symm _).trans (congrArg (· &&& _) hdata)

/-- A write that is stored only while `EN` = 0 is stored while `EN` = 0 (R170). -/
theorem State.eq_of_unlessEnabled {s stored t : State} (off : s.en = false)
    (h : (Host.Outcome.next (s.unlessEnabled stored) : Host.Outcome State Fault Refusal) = .next t) : t = stored := by
  rw [State.unlessEnabled_open off] at h
  exact (Host.Outcome.next.inj h).symm

/-- Settles O25: an open write stores the fields of DATA, and the read puts them where they stood. -/
theorem configurationReadsBackWhatWasWritten : Obligations.ConfigurationReadsBackWhatWasWritten := by
  unfold Obligations.ConfigurationReadsBackWhatWasWritten
  intro s t data off
  refine ⟨fun h => ?_, fun h => ?_, fun h => ?_, fun h => ?_, fun h => ?_, fun h => ?_, fun h => ?_⟩
  · rw [State.eq_of_unlessEnabled off h]; exact keep_frameCfg data
  · rw [State.eq_of_unlessEnabled off h]; rfl
  · rw [State.eq_of_unlessEnabled off h]; rfl
  · rw [State.eq_of_unlessEnabled off h]; exact keep_low (n := 16) (m := 16) data
  · rw [State.eq_of_unlessEnabled off h]; exact keep_low (n := 16) (m := 16) data
  · rw [State.eq_of_unlessEnabled off h]; exact keep_lenCfg data
  · cases h
    exact keep_low (n := 27) (m := 5) data

/-! ## The written form (R91 to R93) -/

/-- A list with `x` put behind each of its entries. -/
theorem flatMap_pair_length {α : Type} (x : α) (l : List α) : (l.flatMap fun e => [e, x]).length = 2 * l.length := by
  induction l with
  | nil => rfl
  | cons a l ih =>
    simp only [List.flatMap_cons, List.length_append, List.length_cons, List.length_nil, ih]
    omega

theorem flatMap_pair_get {α : Type} (x : α) (l : List α) (k : Nat) :
    (l.flatMap fun e => [e, x])[2 * k]? = l[k]? ∧
      (k < l.length → (l.flatMap fun e => [e, x])[2 * k + 1]? = some x) := by
  induction l generalizing k with
  | nil => exact ⟨rfl, nofun⟩
  | cons a l ih =>
    cases k with
    | zero => exact ⟨rfl, fun _ => rfl⟩
    | succ k =>
      obtain ⟨heven, hodd⟩ := ih k
      exact ⟨heven, fun hk => hodd (Nat.lt_of_succ_lt_succ hk)⟩

/-- Settles O59: each line is its descriptor, which decodes by the rules of its format; a `DRAIN` is the event whose
two steps O12 gives; and the eager schedule is the program's list with a `DRAIN` behind each entry. -/
theorem writtenLinesStandForTheirOperations : Obligations.WrittenLinesStandForTheirOperations := by
  unfold Obligations.WrittenLinesStandForTheirOperations
  refine ⟨fun line i h => ?_, fun addr recorded imm h => ⟨⟨_, rfl, decode_host _ h⟩, _, rfl, decode_host _ h⟩,
    fun k imm => ⟨windowOffset_toNat k, decodeRead_window k, decodeWrite_window k imm⟩,
    fun mask => ⟨_, rfl, decode_host _ (by decide)⟩, fun b => ⟨_, rfl, decode_stream _ b⟩,
    fun bytes => List.map_eq_flatMap,
    fun s rest h => ⟨step_drain_enabled h, step_drain_done h⟩,
    fun lines => ⟨flatMap_pair_length _ _, flatMap_pair_get _ _⟩⟩
  simp only [List.mem_cons, List.not_mem_nil, or_false, Prod.mk.injEq] at h
  obtain ⟨rfl, rfl⟩ | ⟨rfl, rfl⟩ | ⟨rfl, rfl⟩ | ⟨rfl, rfl⟩ | ⟨rfl, rfl⟩ | ⟨rfl, rfl⟩ | ⟨rfl, rfl⟩ | ⟨rfl, rfl⟩ := h <;>
    exact ⟨_, rfl, by decide⟩

end Sys2Proof.Machine
end

section
/-! PROOF. The stream input (40_stream_input.md): which descriptors the Source's operations are, and what each does
while `rx_ready` = 1, while it is 0 and while FAULT = 1 (R100, R101, R103, R104). -/
namespace Sys2Proof

/-! ## Descriptors of format STREAM (R82) -/

/-- Bits 47:44 of a STREAM descriptor are `PORT` = 01 and `KIND`. -/
theorem stream_fields {d : Descriptor} {kind : BitVec 2} (h : d.toNat / 2 ^ 44 = 4 + kind.toNat) :
    portOf d = 1#2 ∧ kindOf d = kind := by
  have hk := kind.isLt
  constructor <;> apply BitVec.eq_of_toNat_eq
  · rw [portOf_toNat, BitVec.toNat_ofNat]
    omega
  · rw [kindOf_toNat]
    omega

/-- Of a STREAM descriptor only `KIND` and `BYTE` matter. -/
theorem decode_of_kind {d : Descriptor} {kind : BitVec 2} (h : d.toNat / 2 ^ 44 = 4 + kind.toNat) :
    decode d = decode (streamDescriptor kind (byteOf d)) := by
  obtain ⟨hport, hkind⟩ := stream_fields h
  rw [decode_of_port_stream hport, decode_of_port_stream (portOf_stream _ _), decodeStream, decodeStream, hkind,
    kindOf_stream, byteOf_stream]

end Sys2Proof

namespace Sys2Proof.Machine

/-! ## `rx_ready` and the engine's enabling (R48, R120) -/

theorem State.rxReady_eq_false {s : State}
    (h : ¬(s.en = true ∧ s.fault = false ∧ s.ready = false ∧ s.scan = s.buf.length)) : s.rxReady = false :=
  Bool.eq_false_iff.2 (mt s.rxReady_iff.1 h)

theorem State.rxReady_of_fault {s : State} (h : s.fault = true) : s.rxReady = false := by
  simp [State.rxReady, h]

theorem State.engineEnabled_of_fault {s : State} (h : s.fault = true) : s.engineEnabled = false := by
  simp [State.engineEnabled, h]

/-- The engine wants a pending byte, the Source none. -/
theorem State.rxReady_of_engineEnabled {s : State} (h : s.engineEnabled = true) : s.rxReady = false := by
  obtain ⟨-, -, -, hlt⟩ := s.engineEnabled_iff.1 h
  exact State.rxReady_eq_false fun ⟨_, _, _, heq⟩ => hlt.ne heq

/-- A byte that arrives while `rx_ready` = 1 is pending (R101). -/
theorem State.engineEnabled_append {s : State} (h : s.rxReady = true) (b : Byte) :
    State.engineEnabled { s with buf := s.buf ++ [b] } = true := by
  obtain ⟨hen, hfault, hready, hscan⟩ := s.rxReady_iff.1 h
  refine (State.engineEnabled_iff _).2 ⟨hen, hfault, hready, ?_⟩
  simp only [List.length_append, List.length_singleton]
  omega

/-! ## The Source's operations, case by case (R101, R103, R104) -/

theorem execRxByte_append {s : State} (h : s.rxReady = true) (b : Byte) :
    execRxByte b s = .next { s with buf := s.buf ++ [b] } := if_pos h

theorem execRxTimeout_discards {s : State} (h : s.rxReady = true) :
    execRxTimeout s = .next { s with buf := [], scan := 0, resync := true, lastCause := .timeout } := by
  rw [execRxTimeout, if_pos h, State.takeCause_timeout]

theorem execRxTimeout_ignored {s : State} (h : s.rxReady = false) : execRxTimeout s = .next s := by
  simp [execRxTimeout, h]

theorem execRxFault_taken {s : State} (hen : s.en = true) (hfault : s.fault = false) :
    execRxFault s = .next (s.takeCause .ioFault) := by
  simp [execRxFault, hen, hfault]

theorem execRxFault_ignored {s : State} (h : ¬(s.en = true ∧ s.fault = false)) : execRxFault s = .next s :=
  if_neg (by simpa using h)

/-- Settles O31: the byte lies at index SCAN, so it is pending, which enables the engine and ends `rx_ready`. -/
theorem receivedByteIsAppended : Obligations.ReceivedByteIsAppended := by
  unfold Obligations.ReceivedByteIsAppended
  intro s b
  refine ⟨fun d hd hb => ?_, fun hen hfault hready hscan => ?_, fun h => ?_⟩
  · have hbyte : byteOf d = b := BitVec.eq_of_toNat_eq ((byteOf_toNat d).trans hb)
    rw [decode_of_kind (kind := 0#2) hd, hbyte]
    exact decode_stream _ _
  · have hrx : s.rxReady = true := s.rxReady_iff.2 ⟨hen, hfault, hready, hscan⟩
    have henabled := State.engineEnabled_append hrx b
    exact ⟨execRxByte_append hrx b, State.rxReady_of_engineEnabled henabled, henabled, fun h => h.room_of_rxReady hrx⟩
  · exact execRxByte_stuck (State.rxReady_eq_false h) b

/-- Settles O32: a timeout looks at `rx_ready` alone, and taken it discards and records TIMEOUT. -/
theorem timeoutDiscardsTheCandidate : Obligations.TimeoutDiscardsTheCandidate := by
  unfold Obligations.TimeoutDiscardsTheCandidate
  refine ⟨fun d hd => (decode_of_kind (kind := 1#2) hd).trans (decode_stream _ _), fun s => ⟨?_, fun h => ?_⟩⟩
  · exact fun hen hfault hready hscan => execRxTimeout_discards (s.rxReady_iff.2 ⟨hen, hfault, hready, hscan⟩)
  · exact execRxTimeout_ignored (State.rxReady_eq_false h)

/-- Settles O33: an I/O fault taken drops what READY does not protect; FAULT = 1 ends `rx_ready` and the engine's
enabling. -/
theorem ioFaultKeepsOnlyTheReadyFrame : Obligations.IoFaultKeepsOnlyTheReadyFrame := by
  unfold Obligations.IoFaultKeepsOnlyTheReadyFrame
  refine ⟨fun d hd => (decode_of_kind (kind := 2#2) hd).trans (decode_stream _ _), fun s =>
    ⟨fun hen hfault hready => ?_, fun hen hfault hready => ?_, execRxFault_ignored, fun hfault => ?_⟩⟩
  · exact ⟨_, (execRxFault_taken hen hfault).trans (by rw [State.takeCause_ioFault_ready hready]), rfl⟩
  · exact ⟨_, (execRxFault_taken hen hfault).trans (by rw [State.takeCause_ioFault_unready hready]), rfl⟩
  · have hrx := State.rxReady_of_fault hfault
    exact ⟨execEngineStep_stuck (State.engineEnabled_of_fault hfault), execRxTimeout_ignored hrx, execRxByte_stuck hrx⟩

end Sys2Proof.Machine
end

section
/-! PROOF. The engine's work over many steps: within its bound it examines what it holds (R130), it finds the earliest
frame (R127, R128), and every run makes progress under weak fairness of the Engine (R130, R264, D30). -/
namespace Sys2Proof.Machine

/-! ## Runs of the engine alone (R127, R130) -/

/-- Settles O54: the work that is left bounds the engine steps, and it is at most len(BUF) · Lmax. -/
theorem engineWorkIsBounded : Obligations.EngineWorkIsBounded := by
  unfold Obligations.EngineWorkIsBounded
  intro s h _ _ _
  obtain ⟨k, t, hk, hrun, hstop, -⟩ := exists_engineRun_stop h
  exact ⟨k, t, hk.trans (Nat.sub_le _ _), hrun, hstop⟩

/-- Neither an open candidate nor a frame starts at any of the first `j` bytes of `l`. -/
def State.nothingBefore (s : State) (l : List Byte) (j : Nat) : Prop :=
  ∀ i < j, ¬s.openCandidate (l.drop i) ∧ ∀ n, ¬s.framesAt (l.drop i) n

/-- `l` starts the frame that `t` has ready, or it is a candidate that `t` has examined to its end. -/
def State.decidedAs (s : State) (l : List Byte) (t : State) : Prop :=
  (t.ready = true ∧ s.framesAt l t.scan) ∨ (t.ready = false ∧ t.scan = l.length ∧ s.openCandidate l)

/-- A first byte that starts nothing goes before positions that start nothing. -/
theorem State.nothingBefore_succ {s : State} {l : List Byte} {j : Nat} (hopen : ¬s.openCandidate l)
    (hframe : ∀ n, ¬s.framesAt l n) (h : s.nothingBefore (l.drop 1) j) : s.nothingBefore l (j + 1) := by
  intro i hi
  cases i with
  | zero => exact ⟨hopen, hframe⟩
  | succ i =>
    have := h i (by omega)
    rwa [List.drop_drop, Nat.add_comm] at this

/-- A collecting block with no engine step enabled has examined its whole candidate. -/
theorem State.Inv.scan_eq_of_stopped {s : State} (h : s.Inv) (he : s.en = true) (hf : s.fault = false)
    (hr : s.ready = false) (hstop : s.engineEnabled = false) : s.scan = s.buf.length := by
  have hle := h.scan_le
  by_contra hne
  exact absurd (s.engineEnabled_iff.2 ⟨he, hf, hr, by omega⟩) (Bool.eq_false_iff.1 hstop)

/-- From a collecting state the engine runs to the earliest position that starts a frame or an open candidate: a step
keeps the position, ends at it, or slides off a position that starts neither. -/
theorem exists_engineRun_earliest {s : State} (h : s.Inv) (he : s.en = true) (hf : s.fault = false)
    (hr : s.ready = false) : ∃ k t j, engineRun k s = some t ∧ t.engineEnabled = false ∧ j ≤ s.buf.length ∧
      t.buf = s.buf.drop j ∧ s.nothingBefore s.buf j ∧ s.decidedAs t.buf t := by
  cases hen : s.engineEnabled with
  | false =>
    have hscan := h.scan_eq_of_stopped he hf hr hen
    have hopen : s.openCandidate s.buf := by
      simpa only [hscan, List.take_length] using h.candidate_open he hf hr
    exact ⟨0, s, 0, rfl, hen, Nat.zero_le _, rfl, nofun, .inr ⟨hr, hscan, hopen⟩⟩
  | true =>
    obtain ⟨u, hx⟩ := execEngineStep_completes h hen
    have hlt := engineWork_lt h hx
    have hu := h.engine hx
    obtain ⟨-, ⟨rfl, -⟩ | ⟨rfl, hframe⟩ | ⟨⟨i, c, rfl⟩, hopen, hframe⟩⟩ := execEngineStep_candidates h hx
    · obtain ⟨k, t, j, hrun, hrest⟩ := exists_engineRun_earliest hu he hf hr
      exact ⟨k + 1, t, j, (engineRun_succ hx k).trans hrun, hrest⟩
    · exact ⟨1, _, 0, engineRun_succ hx 0, State.engineEnabled_of_ready rfl, Nat.zero_le _, rfl, nofun,
        .inl ⟨rfl, hframe⟩⟩
    · obtain ⟨k, t, j, hrun, hstop, hj, hbuf, hnone, hdecided⟩ := exists_engineRun_earliest hu he hf hr
      obtain ⟨-, -, -, hpending⟩ := s.engineEnabled_iff.1 hen
      rw [List.length_drop] at hj
      exact ⟨k + 1, t, j + 1, (engineRun_succ hx k).trans hrun, hstop, by omega,
        by rw [hbuf, List.drop_drop, Nat.add_comm], State.nothingBefore_succ hopen hframe hnone, hdecided⟩
termination_by s.engineWork
decreasing_by all_goals exact hlt

/-- Settles O57: the engine's run to the earliest position, with the two notions written out. -/
theorem engineFindsTheEarliestFrame : Obligations.EngineFindsTheEarliestFrame := by
  unfold Obligations.EngineFindsTheEarliestFrame
  intro s h he hf hr
  exact exists_engineRun_earliest h he hf hr

/-! ## The work in any step (R130) -/

/-- A terminal length is at most `Lmax` (R55). -/
theorem State.terminal_le_lmax {s : State} {l : List Byte} {n : Nat} (h : s.terminal l n) : n ≤ s.lmax := by
  unfold State.terminal at h
  unfold State.lmax
  cases hm : s.mode <;> simp only [hm] at h ⊢
  case binFixed => exact Nat.le_of_eq h
  case binLenfield =>
    obtain ⟨-, ⟨-, hmax⟩, rfl⟩ := h
    exact hmax
  case text =>
    obtain ⟨-, hmax, -⟩ := h
    exact hmax

/-- A ready frame has at least one byte and at most `Lmax` bytes. -/
theorem State.Inv.ready_scan {s : State} (h : s.Inv) (hr : s.ready = true) : 1 ≤ s.scan ∧ s.scan ≤ s.lmax := by
  obtain ⟨-, -, hterm, -⟩ := h.ready_frame hr
  have hgt := State.terminal_gt (h.enabled_legal (h.en_of_ready hr)) hterm
  exact ⟨by omega, State.terminal_le_lmax hterm⟩

/-- Dropping `n` bytes takes `n · Lmax` steps off the bound, which makes up for the rescan if `SCAN` was no more. -/
theorem engineWork_drop_le {s t : State} {n : Nat} (hbuf : t.buf = s.buf.drop n) (hlmax : t.lmax = s.lmax)
    (hscan : s.scan ≤ n * s.lmax) : t.engineWork ≤ s.engineWork := by
  unfold State.engineWork
  rw [hbuf, hlmax, List.length_drop, Nat.sub_mul]
  omega

theorem engineWork_of_empty {s : State} (h : s.buf = []) : s.engineWork = 0 := by
  simp [State.engineWork, h]

/-- No operation but a byte's arrival adds to the engine's work: a configuration changes in an empty block only. -/
theorem Effect.engineWork_le {i : Instr} {s t : State} (e : Effect i s t) (h : s.Inv) (hbyte : ∀ b, i ≠ .rxByte b) :
    t.engineWork ≤ s.engineWork := by
  have empty {u : State} (hu : u.buf = []) : u.engineWork ≤ s.engineWork :=
    (engineWork_of_empty hu).trans_le (Nat.zero_le _)
  cases e with
  | configure off =>
    obtain ⟨hb, -, -⟩ := h.idle_empty off
    exact empty hb
  | accept ready =>
    obtain ⟨hpos, hle⟩ := h.ready_scan ready
    exact engineWork_drop_le rfl rfl (Nat.le_mul_of_pos_right _ (by omega))
  | reject ready =>
    obtain ⟨-, hle⟩ := h.ready_scan ready
    exact engineWork_drop_le (n := 1) rfl rfl (by omega)
  | faultReady =>
    exact Nat.sub_le_sub_right (Nat.mul_le_mul_right _ (List.length_take_le' _ _)) _
  | disable | rejectFaulted | softReset | timeout | faultUnready => exact empty rfl
  | byte => exact absurd rfl (hbyte _)
  | engine completes => exact (engineWork_lt h completes).le
  | _ => exact Nat.le_refl _

/-! ## The instants of a run (R70, R264) -/

/-- Every instant keeps the invariant. -/
theorem State.Inv.of_moves {s t : State} {e : Option Event} (h : s.Inv) (hm : s.moves e t) : t.Inv := by
  cases e with
  | none =>
    obtain rfl : t = s := hm
    exact h
  | some e => exact (h.withTrace [e]).of_step hm

theorem IsRun.inv {states : Nat → State} {events : Nat → Option Event} (hrun : IsRun states events)
    (h : (states 0).Inv) (k : Nat) : (states k).Inv := by
  induction k with
  | zero => exact h
  | succ k ih => exact ih.of_moves (hrun k)

/-- An instant at which no byte arrives performs no RX_BYTE. -/
theorem decode_ne_rxByte {d : Descriptor} (h : byteArrives (some (.descriptor d)) = false) (b : Byte) :
    decode d ≠ .rxByte b := by
  intro hd
  obtain rfl : b = byteOf d := operandsIn_of_decode hd
  simp [byteArrives, hd] at h

/-- An instant at which no byte arrives adds no work, and an engine step performed at it takes some away. -/
theorem State.moves.engineWork_le {s t : State} {e : Option Event} (hm : s.moves e t) (h : s.Inv)
    (hbyte : byteArrives e = false) :
    t.engineWork ≤ s.engineWork ∧ (s.engineEnabled = true → engineActs e = true → t.engineWork < s.engineWork) := by
  match e with
  | none =>
    obtain rfl : t = s := hm
    exact ⟨Nat.le_refl _, nofun⟩
  | some (.descriptor d) =>
    have hx : exec (decode d) (s.withTrace []) = .next t := hm
    refine ⟨(effect_of_exec hx).engineWork_le (h.withTrace []) (decode_ne_rxByte hbyte), fun _ hacts => ?_⟩
    rw [of_decide_eq_true hacts] at hx
    have hlt := engineWork_lt (h.withTrace []) hx
    exact hlt
  | some .drain =>
    cases he : s.engineEnabled with
    | true =>
      have hx := (step_drain_enabled (s := s.withTrace [.drain]) rfl he).symm.trans hm
      have hlt := engineWork_lt (h.withTrace _) hx
      exact ⟨hlt.le, fun _ _ => hlt⟩
    | false =>
      have hx := (step_drain_done (s := s.withTrace [.drain]) rfl he).symm.trans hm
      cases hx
      exact ⟨Nat.le_refl _, nofun⟩
  | some .hardwareReset =>
    cases hm
    exact ⟨(engineWork_of_empty rfl).trans_le (Nat.zero_le _), nofun⟩

theorem engineSteps_succ (states : Nat → State) (events : Nat → Option Event) {k j : Nat} (h : k ≤ j) :
    engineSteps states events k (j + 1) = engineSteps states events k j +
      if (states j).engineEnabled && engineActs (events j) then 1 else 0 := by
  unfold engineSteps
  rw [Nat.succ_sub h, List.range'_concat, List.filter_append, List.length_append, Nat.one_mul, Nat.add_sub_cancel' h,
    List.filter_singleton]
  cases (states j).engineEnabled && engineActs (events j) <;> rfl

/-- While no byte arrives, the engine steps performed and the work left are together at most the work there was. -/
theorem engineSteps_add_engineWork_le {states : Nat → State} {events : Nat → Option Event}
    (hrun : IsRun states events) (h : (states 0).Inv) {k j : Nat} (hkj : k ≤ j)
    (hquiet : ∀ m, k ≤ m → m < j → byteArrives (events m) = false) :
    engineSteps states events k j + (states j).engineWork ≤ (states k).engineWork := by
  induction j, hkj using Nat.le_induction with
  | base => simp [engineSteps]
  | succ j hkj ih =>
    have before := ih fun m hm hmj => hquiet m hm (by omega)
    obtain ⟨hle, hlt⟩ := (hrun j).engineWork_le (hrun.inv h j) (hquiet j hkj (by omega))
    rw [engineSteps_succ states events hkj]
    split
    case isTrue hacts =>
      obtain ⟨he, hacts⟩ := Bool.and_eq_true_iff.1 hacts
      have := hlt he hacts
      omega
    case isFalse => omega

/-- While the engine is enabled no byte can arrive (R48, R120). -/
theorem State.moves.no_byte {s t : State} {e : Option Event} (hm : s.moves e t) (he : s.engineEnabled = true) :
    byteArrives e = false := by
  match e with
  | none | some .drain | some .hardwareReset => rfl
  | some (.descriptor d) =>
    refine decide_eq_false fun hd => ?_
    have hx : exec (decode d) (s.withTrace []) = .next t := hm
    rw [hd] at hx
    have hrx : s.rxReady = true := (execRxByte_cases hx).1
    exact absurd hrx (Bool.eq_false_iff.1 (State.rxReady_of_engineEnabled he))

/-- Under weak fairness the engine does not stay enabled for ever, since each of its steps takes work away. -/
theorem exists_engine_disabled {states : Nat → State} {events : Nat → Option Event} (hrun : IsRun states events)
    (h : (states 0).Inv) (hfair : WeaklyFair states events) (k : Nat) :
    ∃ j, k ≤ j ∧ (states j).engineEnabled = false := by
  by_contra hnone
  have enabled (j : Nat) (hj : k ≤ j) : (states j).engineEnabled = true := by
    by_contra he
    exact hnone ⟨j, hj, by simpa using he⟩
  obtain ⟨j, hj, hacts⟩ := hfair k enabled
  have quiet (m : Nat) (hm : k ≤ m) : byteArrives (events m) = false := (hrun m).no_byte (enabled m hm)
  have hle := engineSteps_add_engineWork_le hrun h hj fun m hm _ => quiet m hm
  have hlt := ((hrun j).engineWork_le (hrun.inv h j) (quiet j hj)).2 (enabled j hj) hacts
  obtain ⟨i, hi, hstop⟩ := exists_engine_disabled hrun h hfair (j + 1)
  exact hnone ⟨i, by omega, hstop⟩
termination_by (states k).engineWork

/-- With no engine step enabled the block waits for a byte or for the host, or it is faulted or disabled (R265). -/
theorem State.Inv.waits_of_stopped {s : State} (h : s.Inv) (hstop : s.engineEnabled = false) :
    s.rxReady = true ∨ s.ready = true ∨ s.fault = true ∨ s.en = false := by
  cases he : s.en with
  | false => exact .inr (.inr (.inr rfl))
  | true =>
    cases hf : s.fault with
    | true => exact .inr (.inr (.inl rfl))
    | false =>
      cases hr : s.ready with
      | true => exact .inr (.inl rfl)
      | false => exact .inl (s.rxReady_iff.2 ⟨he, hf, hr, h.scan_eq_of_stopped he hf hr hstop⟩)

/-- Settles O56: the work that is left bounds the engine steps before the next byte, and ends every stretch in which
the engine stays enabled. -/
theorem fairRunsMakeProgress : Obligations.FairRunsMakeProgress := by
  unfold Obligations.FairRunsMakeProgress
  intro states events hrun h
  refine ⟨fun k j hkj hquiet => ?_, fun hfair k => ?_⟩
  · have hle := engineSteps_add_engineWork_le hrun h hkj hquiet
    exact (Nat.le_of_add_right_le hle).trans (Nat.sub_le _ _)
  · obtain ⟨j, hj, hstop⟩ := exists_engine_disabled hrun h hfair k
    exact ⟨j, hj, hstop, (hrun.inv h j).waits_of_stopped hstop⟩

end Sys2Proof.Machine
end

section
/-! PROOF. One engine step (41_frame_engine.md): when it is enabled (R120), and what it does in the pattern phase (R121)
and in the collection of each mode (R122 to R126). -/
namespace Sys2Proof.Machine

/-! ## When the engine examines a byte (R120) -/

theorem State.mode_of_bits {s : State} {bits : BitVec 2} (h : s.frameCfg.mode = bits) : s.mode = Mode.ofBits bits :=
  congrArg Mode.ofBits h

/-- An enabled engine has a byte to examine. -/
theorem State.exists_examined {s : State} (he : s.engineEnabled = true) : ∃ b, s.buf[s.scan]? = some b := by
  obtain ⟨-, -, -, hlt⟩ := s.engineEnabled_iff.1 he
  exact ⟨_, List.getElem?_eq_getElem hlt⟩

/-- An enabled step examines the byte at `SCAN`. -/
theorem execEngineStep_examine {s : State} {b : Byte} (he : s.engineEnabled = true) (hb : s.buf[s.scan]? = some b) :
    execEngineStep s = s.examine b := by
  rw [execEngineStep, if_pos he, List.getD_eq_getElem?_getD, hb, Option.getD_some]

theorem State.examine_illegal {s : State} (h : s.frameCfgLegal = false) (b : Byte) :
    s.examine b = .fault .frameCfgReserved := by
  simp [State.examine, h]

theorem State.examine_pattern {s : State} (h : s.frameCfgLegal = true) (hp : s.scan + 1 ≤ s.patLen) (b : Byte) :
    s.examine b = .next (s.matchPattern b (s.scan + 1)) := by
  simp [State.examine, h, hp]

theorem State.examine_fixed {s : State} (h : s.frameCfgLegal = true) (hp : s.patLen < s.scan + 1)
    (hm : s.mode = .binFixed) (b : Byte) : s.examine b = .next (s.collectFixed (s.scan + 1)) := by
  simp [State.examine, h, hm, Nat.not_le.2 hp]

theorem State.examine_lenfield {s : State} (h : s.frameCfgLegal = true) (hp : s.patLen < s.scan + 1)
    (hm : s.mode = .binLenfield) (b : Byte) : s.examine b = .next (s.collectLenfield (s.scan + 1)) := by
  simp [State.examine, h, hm, Nat.not_le.2 hp]

theorem State.examine_text {s : State} (h : s.frameCfgLegal = true) (hp : s.patLen < s.scan + 1)
    (hm : s.mode = .text) (b : Byte) : s.examine b = .next (s.collectText b (s.scan + 1)) := by
  simp [State.examine, h, hm, Nat.not_le.2 hp]

/-- Settles O39: the enabling is by its four conditions, and an enabled step stops under an illegal `FRAME_CFG` only. -/
theorem engineStepNeedsAPendingByte : Obligations.EngineStepNeedsAPendingByte := by
  unfold Obligations.EngineStepNeedsAPendingByte
  intro s
  refine ⟨s.engineEnabled_iff, execEngineStep_stuck, fun he hcfg => ?_, fun ⟨he, hrx⟩ => ?_⟩
  · obtain ⟨b, hb⟩ := State.exists_examined he
    exact (execEngineStep_examine he hb).trans (State.examine_illegal hcfg b)
  · exact absurd hrx (Bool.eq_false_iff.1 (State.rxReady_of_engineEnabled he))

/-! ## The pattern phase (R121) -/

/-- Settles O34: a byte of the pattern advances `SCAN`, to the collection when it is the last; any other slides. -/
theorem patternPhaseMatchesOrSlides : Obligations.PatternPhaseMatchesOrSlides := by
  unfold Obligations.PatternPhaseMatchesOrSlides
  intro s b he hcfg hb hp
  have hx : execEngineStep s = .next (s.matchPattern b (s.scan + 1)) :=
    (execEngineStep_examine he hb).trans (State.examine_pattern hcfg hp b)
  obtain ⟨hen, hf, hr, -⟩ := s.engineEnabled_iff.1 he
  refine ⟨fun heq => ⟨hx.trans ?_, fun hlast => ?_⟩, fun hne => hx.trans ?_⟩
  · rw [State.matchPattern, Nat.add_sub_cancel, if_pos heq]
    rfl
  · simp [State.engineState, hen, hf, hr, State.patLen, hlast]
  · rw [State.matchPattern, Nat.add_sub_cancel, if_neg hne]
    rfl

/-! ## Completion (R124, R125) -/

theorem State.complete_valid {s : State} {alg : Algorithm} {n : Nat} (h : validate alg (s.buf.take n) = .valid) :
    s.complete alg n = { s with scan := n, ready := true } := by
  simp [State.complete, h]

theorem State.complete_invalid {s : State} {alg : Algorithm} {n : Nat} {c : Cause}
    (h : validate alg (s.buf.take n) = .invalid c) :
    s.complete alg n = { s with buf := s.buf.drop 1, scan := 0, invalid := true, lastCause := c } := by
  simp [State.complete, h, State.takeCause_of_rejects (validate_cause h)]

/-- ADD16 knows one cause (R151). -/
theorem validate_add16_cause {l : List Byte} (h : validate .add16 l ≠ .valid) :
    validate .add16 l = .invalid .checksum := by
  simp only [validate, validateAdd16] at h ⊢
  split
  · exact absurd (if_pos ‹_›) h
  · rfl

/-! ## The collections (R122, R123, R126) -/

/-- Settles O36: the step is BIN_FIXED's collection, which completes at `TOTAL_LEN`. -/
theorem fixedLengthCollection : Obligations.FixedLengthCollection := by
  unfold Obligations.FixedLengthCollection
  intro s he hcfg hbits hp
  obtain ⟨b, hb⟩ := State.exists_examined he
  have hx : execEngineStep s = .next (s.collectFixed (s.scan + 1)) :=
    (execEngineStep_examine he hb).trans (State.examine_fixed hcfg hp (State.mode_of_bits hbits) b)
  refine ⟨fun hne => hx.trans ?_, fun heq => ⟨fun hv => hx.trans ?_, fun hv => hx.trans ?_⟩⟩
  · rw [State.collectFixed, if_neg hne]
    rfl
  · rw [State.collectFixed, if_pos heq, State.complete_valid hv]
  · rw [State.collectFixed, if_pos heq, State.complete_invalid (validate_add16_cause hv)]

/-- The announced length of a one-byte field (R123). -/
theorem State.announcedLen_one {s : State} {l : List Byte} {x : Byte} (hw : s.lenCfg.lenW = 0#1)
    (hx : l[s.lenCfg.lenOff.toNat]? = some x) : s.announcedLen l = x.toNat + s.lenCfg.lenBias.toNat := by
  have hend : s.lenEnd = s.lenCfg.lenOff.toNat + 1 := by simp [State.lenEnd, State.lenWidth, hw]
  rw [State.announcedLen, hend, slice_eq_cons hx (by omega), slice_eq_nil (by omega)]
  simp [be]

/-- The announced length of a two-byte field, the first byte the higher (R123). -/
theorem State.announcedLen_two {s : State} {l : List Byte} {x y : Byte} (hw : s.lenCfg.lenW = 1#1)
    (hx : l[s.lenCfg.lenOff.toNat]? = some x) (hy : l[s.lenCfg.lenOff.toNat + 1]? = some y) :
    s.announcedLen l = x.toNat * 256 + y.toNat + s.lenCfg.lenBias.toNat := by
  have hend : s.lenEnd = s.lenCfg.lenOff.toNat + 2 := by simp [State.lenEnd, State.lenWidth, hw]
  rw [State.announcedLen, hend, slice_eq_cons hx (by omega), slice_eq_cons hy (by omega), slice_eq_nil (by omega)]
  simp [be]

/-- A length field has one byte or two. -/
theorem LenCfg.width_cases (c : LenCfg) : c.lenW = 0#1 ∨ c.lenW = 1#1 := by
  generalize c.lenW = w
  revert w
  decide

/-- Before the length field is complete a byte is kept. -/
theorem State.collectLenfield_open {s : State} {n : Nat} (h : n < s.lenEnd) : s.collectLenfield n = s.keepByte n :=
  if_pos h

/-- Once the length field is complete, the collection goes by the length announced among the bytes held. -/
theorem State.collectLenfield_closed {s : State} {n : Nat} (h : s.lenEnd ≤ n) :
    s.collectLenfield n =
      if s.announcedLen s.buf < s.lenEnd + 2 ∨ s.maxLen.toNat < s.announcedLen s.buf then s.takeCause .length
      else if n = s.announcedLen s.buf then s.complete .add16 n
      else s.keepByte n := by
  rw [State.collectLenfield, if_neg (Nat.not_lt.2 h), State.announcedLen_take s s.buf n h]

/-- Settles O37: `total` is the announced length, and the step is BIN_LENFIELD's collection, which looks at it once the
field is complete. -/
theorem lengthFieldCollection : Obligations.LengthFieldCollection := by
  unfold Obligations.LengthFieldCollection
  intro s total he hcfg hbits hp
  obtain ⟨b, hb⟩ := State.exists_examined he
  have hx : execEngineStep s = .next (s.collectLenfield (s.scan + 1)) :=
    (execEngineStep_examine he hb).trans (State.examine_lenfield hcfg hp (State.mode_of_bits hbits) b)
  have hend : s.lenCfg.lenOff.toNat + 1 + s.lenCfg.lenW.toNat = s.lenEnd := Nat.add_assoc _ _ _
  rw [hend]
  refine ⟨fun hopen => hx.trans (congrArg _ (State.collectLenfield_open hopen)), fun hclosed x y hfirst hone htwo => ?_⟩
  have htotal : s.announcedLen s.buf = total := by
    obtain hw | hw := s.lenCfg.width_cases
    · exact (State.announcedLen_one hw hfirst).trans (hone hw).symm
    · obtain ⟨hsecond, htotal⟩ := htwo hw
      exact (State.announcedLen_two hw hfirst hsecond).trans htotal.symm
  rw [State.collectLenfield_closed hclosed, htotal] at hx
  refine ⟨fun hbad => hx.trans ?_, fun hlow hhigh => ?_⟩
  · exact congrArg _ ((if_pos hbad).trans (State.takeCause_of_rejects rfl))
  · rw [if_neg (not_or.2 ⟨Nat.not_lt.2 hlow, Nat.not_lt.2 hhigh⟩)] at hx
    refine ⟨fun hne => hx.trans (congrArg _ (if_neg hne)), fun heq => ?_⟩
    rw [if_pos heq] at hx
    exact ⟨fun hv => hx.trans (congrArg _ (State.complete_valid hv)),
      fun hv => hx.trans (congrArg _ (State.complete_invalid (validate_add16_cause hv)))⟩

/-- Settles O38: the step is TEXT's collection, which completes at an LF and rejects at `MAX_LEN`. -/
theorem textLineCollection : Obligations.TextLineCollection := by
  unfold Obligations.TextLineCollection
  intro s b he hcfg hbits hp hb
  have hx : execEngineStep s = .next (s.collectText b (s.scan + 1)) :=
    (execEngineStep_examine he hb).trans (State.examine_text hcfg hp (State.mode_of_bits hbits) b)
  refine ⟨fun hne hlt => hx.trans ?_, fun hne hle => hx.trans ?_, fun heq hv => hx.trans ?_,
    fun heq c hv => hx.trans ?_⟩
  · rw [State.collectText, if_neg hne, if_neg (Nat.not_le.2 hlt)]
    rfl
  · rw [State.collectText, if_neg hne, if_pos hle, State.takeCause_of_rejects rfl]
  · rw [State.collectText, if_pos heq, State.complete_valid hv]
  · rw [State.collectText, if_pos heq, State.complete_invalid hv]

/-! ## What may happen to BUF (R71, R128) -/

/-- Settles O48: each effect of an operation, with what it does to BUF. -/
theorem streamMovesOnlyAsListed : Obligations.StreamMovesOnlyAsListed := by
  unfold Obligations.StreamMovesOnlyAsListed
  intro i s t h
  cases effect_of_exec h with
  | reject => exact .inr (.inl ⟨.inr rfl, rfl, rfl, rfl⟩)
  | accept => exact .inr (.inr (.inl ⟨rfl, rfl, rfl, rfl⟩))
  | byte => exact .inr (.inr (.inr (.inl ⟨_, rfl, rfl, rfl⟩)))
  | faultReady _ _ ready => exact .inr (.inr (.inr (.inr (.inl ⟨rfl, rfl, ready, rfl⟩))))
  | timeout => exact .inr (.inr (.inr (.inr (.inr ⟨.inl rfl, rfl, rfl⟩))))
  | faultUnready => exact .inr (.inr (.inr (.inr (.inr ⟨.inr (.inl rfl), rfl, rfl⟩))))
  | softReset => exact .inr (.inr (.inr (.inr (.inr ⟨.inr (.inr (.inl rfl)), rfl, rfl⟩))))
  | rejectFaulted _ faulted =>
    exact .inr (.inr (.inr (.inr (.inr ⟨.inr (.inr (.inr (.inl ⟨rfl, faulted⟩))), rfl, rfl⟩))))
  | disable _ bit =>
    exact .inr (.inr (.inr (.inr (.inr ⟨.inr (.inr (.inr (.inr ⟨_, rfl, bit⟩))), rfl, rfl⟩))))
  | engine completes =>
    obtain ⟨he, hshape⟩ := execEngineStep_shape completes
    obtain ⟨-, -, hr, -⟩ := s.engineEnabled_iff.1 he
    obtain rfl | rfl | rfl | ⟨c, -, rfl⟩ := hshape
    · exact .inl rfl
    · exact .inl rfl
    · exact .inr (.inl ⟨.inl rfl, rfl, rfl, hr⟩)
    · exact .inr (.inl ⟨.inl rfl, rfl, rfl, hr⟩)
  | _ => exact .inl rfl

end Sys2Proof.Machine
end

section
/-! PROOF. The checksum verdicts (42_checksum.md): the ADD16 verdict (R150, R151), the XOR8 verdict (R152 to R156),
and what one wrong byte does to either (R158). -/
namespace Sys2Proof.Machine

/-! ## The ADD16 verdict (R150, R151) -/

theorem sum16_append_pair (summed : List Byte) (hi lo : Byte) :
    sum16 (summed ++ [hi, lo]) = (summed.map BitVec.toNat).sum % 65536 := by
  simp [sum16]

/-- The two trailing bytes, as ADD16 takes them. -/
theorem slice_append_pair (summed : List Byte) (hi lo : Byte) :
    slice (summed ++ [hi, lo]) ((summed ++ [hi, lo]).length - 2) (summed ++ [hi, lo]).length = [hi, lo] := by
  rw [slice, List.take_length, List.length_append]
  exact List.drop_left

theorem be_pair (hi lo : Byte) : be [hi, lo] = hi.toNat * 256 + lo.toNat := by simp [be]

/-- Settles O40: the two trailing bytes are the slice compared, and what precedes them is what is summed. -/
theorem additiveVerdict : Obligations.AdditiveVerdict := by
  unfold Obligations.AdditiveVerdict
  intro summed hi lo
  rw [validate, validateAdd16, slice_append_pair, sum16_append_pair, be_pair]

/-! ## The shape of a text line (R153) -/

theorem digitAt_eq_some_iff {l : List Byte} {k h : Nat} :
    digitAt l k = some h ↔ ∃ d, l[k]? = some d ∧ digitValue d h := by
  simp only [digitAt, Option.bind_eq_some_iff, hexDigit_eq_some_iff]

/-- `TextShape` by the positions it looks at. -/
theorem textShape_iff {l : List Byte} : textShape l = true ↔
    6 ≤ l.length ∧ l[l.length - 2]? = some 0x0D#8 ∧ l[l.length - 5]? = some 0x2A#8 ∧ 0x2A#8 ∉ textBody l ∧
      ∃ h1 h2, digitAt l (l.length - 4) = some h1 ∧ digitAt l (l.length - 3) = some h2 := by
  simp only [textShape, Bool.and_eq_true, decide_eq_true_eq, Bool.not_eq_true', Bool.eq_false_iff, ne_eq,
    List.contains_iff_mem, Option.isSome_iff_exists, and_assoc, exists_and_left, exists_and_right]

theorem slice_append_slice (l : List Byte) {a n m : Nat} (ha : a ≤ n) (hn : n ≤ m) :
    slice l a n ++ slice l n m = slice l a m := by
  have h := List.take_append_drop (n - a) (slice l a m)
  rwa [slice, List.drop_drop, List.take_drop, List.take_take, Nat.add_sub_cancel' ha, Nat.min_eq_left hn] at h

/-- A line of at least six bytes is a start marker, its body and the five bytes after the body. -/
theorem eq_marker_body_tail {l : List Byte} (h : 6 ≤ l.length) :
    ∃ m, l = m :: textBody l ++ slice l (l.length - 5) l.length := by
  obtain _ | ⟨m, rest⟩ := l
  · simp at h
  · refine ⟨m, ?_⟩
    rw [textBody, List.cons_append, slice_append_slice _ (by omega) (by omega)]
    simp [slice]

/-- For a line ended by LF, `TextShape` says that it is a text line. -/
theorem textShape_iff_textLine {l : List Byte} (hlf : l.getLast? = some 0x0A#8) :
    textShape l = true ↔ ∃ body h1 h2, textLine l body h1 h2 := by
  rw [textShape_iff]
  constructor
  · rintro ⟨hlen, hcr, hstar, hbody, h1, h2, hd1, hd2⟩
    obtain ⟨d1, hd1, hv1⟩ := digitAt_eq_some_iff.1 hd1
    obtain ⟨d2, hd2, hv2⟩ := digitAt_eq_some_iff.1 hd2
    rw [List.getLast?_eq_getElem?] at hlf
    obtain ⟨n, hn⟩ := Nat.exists_eq_add_of_le' hlen
    obtain ⟨m, hl⟩ := eq_marker_body_tail hlen
    refine ⟨textBody l, h1, h2, m, d1, d2, hl.trans ?_, hbody, hv1, hv2⟩
    simp only [hn, Nat.reduceSubDiff] at hcr hstar hd1 hd2 hlf ⊢
    rw [slice_eq_cons hstar (by omega), slice_eq_cons hd1 (by omega), slice_eq_cons hd2 (by omega),
      slice_eq_cons hcr (by omega), slice_eq_cons hlf (by omega), slice_eq_nil (by omega)]
  · rintro ⟨body, h1, h2, m, d1, d2, hl, hbody, hv1, hv2⟩
    obtain ⟨hlen, htext, hcr, hstar, hd1, hd2⟩ := textLine_parts m d1 d2 body
    rw [← hl] at hlen htext hcr hstar hd1 hd2
    exact ⟨by omega, hcr, hstar, htext ▸ hbody, h1, h2, digitAt_eq_some_iff.2 ⟨d1, hd1, hv1⟩,
      digitAt_eq_some_iff.2 ⟨d2, hd2, hv2⟩⟩

/-! ## The XOR8 verdict (R155, R156) -/

theorem textLine_getLast? {l body : List Byte} {h1 h2 : Nat} (h : textLine l body h1 h2) :
    l.getLast? = some 0x0A#8 := by
  obtain ⟨m, d1, d2, rfl, -⟩ := h
  rw [List.getLast?_append_of_ne_nil _ (List.cons_ne_nil _ _)]
  rfl

/-- The verdict on a text line is the comparison of its digits with the XOR of its body. -/
theorem validate_xor8_of_textLine {l body : List Byte} {h1 h2 : Nat} (h : textLine l body h1 h2) :
    validate .xor8 l =
      if (body.foldl (· ^^^ ·) 0#8).toNat = 16 * h1 + h2 then .valid else .invalid .checksum := by
  have hshape : textShape l = true := (textShape_iff_textLine (textLine_getLast? h)).2 ⟨body, h1, h2, h⟩
  obtain ⟨hwritten, hxor⟩ := textLine_values h
  simp only [validate, validateXor8, hshape, hwritten, hxor, Option.some.injEq, eq_comm, Bool.not_true,
    Bool.false_eq_true, if_false]

/-- A line ended by LF that is no text line is FORMAT. -/
theorem validate_xor8_of_not_textLine {l : List Byte} (hlf : l.getLast? = some 0x0A#8)
    (h : ¬∃ body h1 h2, textLine l body h1 h2) : validate .xor8 l = .invalid .format := by
  rw [← textShape_iff_textLine hlf] at h
  simp [validate, validateXor8, h]

/-- Settles O41: a line that is no text line is FORMAT, and a text line has the verdict its digits give. -/
theorem textVerdict : Obligations.TextVerdict := by
  unfold Obligations.TextVerdict
  intro l hlf
  by_cases hline : ∃ body h1 h2, textLine l body h1 h2
  · refine ⟨⟨fun hv => ?_, ?_⟩, ⟨fun hv => ?_, fun hno => absurd hline hno⟩, ⟨fun hv => ?_, ?_⟩⟩
    · obtain ⟨body, h1, h2, h⟩ := hline
      rw [validate_xor8_of_textLine h] at hv
      exact ⟨body, h1, h2, h, by simpa using hv⟩
    · rintro ⟨body, h1, h2, h, heq⟩
      rw [validate_xor8_of_textLine h, if_pos heq]
    · obtain ⟨body, h1, h2, h⟩ := hline
      rw [validate_xor8_of_textLine h] at hv
      split at hv <;> cases hv
    · obtain ⟨body, h1, h2, h⟩ := hline
      rw [validate_xor8_of_textLine h] at hv
      exact ⟨body, h1, h2, h, by simpa using hv⟩
    · rintro ⟨body, h1, h2, h, hne⟩
      rw [validate_xor8_of_textLine h, if_neg hne]
  · rw [validate_xor8_of_not_textLine hlf hline]
    simp only [reduceCtorEq, Verdict.invalid.injEq, true_iff, false_iff]
    exact ⟨fun ⟨body, h1, h2, h, _⟩ => hline ⟨body, h1, h2, h⟩, hline,
      fun ⟨body, h1, h2, h, _⟩ => hline ⟨body, h1, h2, h⟩⟩

/-! ## One wrong byte (R158) -/

/-- `l'` is `l` with exactly the byte at `i` changed. -/
structure DiffersAt (l l' : List Byte) (i : Nat) : Prop where
  length_eq : l'.length = l.length
  agree : ∀ k, k ≠ i → l'[k]? = l[k]?
  differ : l'[i]? ≠ l[i]?

/-- The two bytes, and what stands before and after both. -/
theorem DiffersAt.split {l l' : List Byte} {i : Nat} (h : DiffersAt l l' i) :
    ∃ before x y after, l = before ++ x :: after ∧ l' = before ++ y :: after ∧ x ≠ y := by
  have hi : i < l.length := by
    by_contra hi
    refine h.differ ?_
    rw [List.getElem?_eq_none (by have := h.length_eq; omega), List.getElem?_eq_none (by omega)]
  have hi' : i < l'.length := h.length_eq ▸ hi
  refine ⟨l.take i, l[i], l'[i], l.drop (i + 1), ?_, ?_, fun hxy => h.differ ?_⟩
  · rw [← List.drop_eq_getElem_cons, List.take_append_drop]
  · have htake : l'.take i = l.take i := List.ext_getElem? fun k => by
      rw [List.getElem?_take, List.getElem?_take]
      split
      · exact h.agree k (by omega)
      · rfl
    have hdrop : l'.drop (i + 1) = l.drop (i + 1) := List.ext_getElem? fun k => by
      rw [List.getElem?_drop, List.getElem?_drop, h.agree _ (by omega)]
    rw [← htake, ← hdrop, ← List.drop_eq_getElem_cons, List.take_append_drop]
  · rw [List.getElem?_eq_getElem hi, List.getElem?_eq_getElem hi', hxy]

theorem getElem?_slice (l : List Byte) (a n k : Nat) :
    (slice l a n)[k]? = if a + k < n then l[a + k]? else none := by
  rw [slice, List.getElem?_drop, List.getElem?_take]

theorem length_slice (l : List Byte) (a n : Nat) : (slice l a n).length = min n l.length - a := by
  rw [slice, List.length_drop, List.length_take]

/-- A slice with the changed byte in it has exactly that byte changed. -/
theorem DiffersAt.slice_differsAt {l l' : List Byte} {i a n : Nat} (h : DiffersAt l l' i) (ha : a ≤ i) (hn : i < n) :
    DiffersAt (slice l a n) (slice l' a n) (i - a) where
  length_eq := by rw [length_slice, length_slice, h.length_eq]
  agree k hk := by rw [getElem?_slice, getElem?_slice, h.agree _ (by omega)]
  differ := by
    rw [getElem?_slice, getElem?_slice, Nat.add_sub_cancel' ha, if_pos hn, if_pos hn]
    exact h.differ

/-- A slice without the changed byte is the same. -/
theorem DiffersAt.slice_eq {l l' : List Byte} {i a n : Nat} (h : DiffersAt l l' i) (hi : i < a ∨ n ≤ i) :
    slice l' a n = slice l a n := by
  refine List.ext_getElem? fun k => ?_
  rw [getElem?_slice, getElem?_slice]
  split
  · exact h.agree _ (by omega)
  · rfl

/-- A fold that is injective in its accumulator and in its byte tells the two apart. -/
theorem DiffersAt.foldl_ne {α : Type} {f : α → Byte → α} (hacc : ∀ b, Function.Injective fun a => f a b)
    (hbyte : ∀ a, Function.Injective (f a)) {l l' : List Byte} {i : Nat} (h : DiffersAt l l' i) (a : α) :
    l'.foldl f a ≠ l.foldl f a := by
  obtain ⟨before, x, y, after, rfl, rfl, hxy⟩ := h.split
  have hafter : Function.Injective fun a => after.foldl f a := by
    clear h
    induction after with
    | nil => exact fun _ _ h => h
    | cons b after ih => exact ih.comp (hacc b)
  rw [List.foldl_append, List.foldl_append]
  exact fun heq => hxy (hbyte _ (hafter heq)).symm

theorem DiffersAt.be_ne {l l' : List Byte} {i : Nat} (h : DiffersAt l l' i) : be l' ≠ be l :=
  h.foldl_ne (fun _ _ _ h => by simpa using h) (fun _ _ _ h => BitVec.eq_of_toNat_eq (by simpa using h)) 0

theorem DiffersAt.xor_ne {l l' : List Byte} {i : Nat} (h : DiffersAt l l' i) :
    l'.foldl (· ^^^ ·) 0x00#8 ≠ l.foldl (· ^^^ ·) 0x00#8 :=
  h.foldl_ne (fun _ _ _ h => by simpa using h) (fun _ _ _ h => by simpa using h) _

/-- The sums differ by less than 256, so they differ mod 2^16. -/
theorem DiffersAt.sum_ne {l l' : List Byte} {i : Nat} (h : DiffersAt l l' i) :
    (l'.map BitVec.toNat).sum % 2 ^ 16 ≠ (l.map BitVec.toNat).sum % 2 ^ 16 := by
  obtain ⟨before, x, y, after, rfl, rfl, hxy⟩ := h.split
  have hne : x.toNat ≠ y.toNat := fun heq => hxy (BitVec.eq_of_toNat_eq heq)
  have hx := x.isLt
  have hy := y.isLt
  simp only [List.map_append, List.map_cons, List.sum_append, List.sum_cons]
  omega

theorem validate_add16_valid_iff {l : List Byte} : validate .add16 l = .valid ↔
    ((slice l 0 (l.length - 2)).map BitVec.toNat).sum % 2 ^ 16 = be (slice l (l.length - 2) l.length) := by
  rw [validate, validateAdd16, ite_eq_left_iff]
  simp [sum16, slice]

/-- R158 for ADD16: the changed byte is summed, or it is one of the two trailing bytes. -/
theorem DiffersAt.not_valid_add16 {l l' : List Byte} {i : Nat} (h : DiffersAt l l' i) (hi : i < l.length)
    (hv : validate .add16 l = .valid) : validate .add16 l' ≠ .valid := by
  rw [validate_add16_valid_iff] at hv
  rw [Ne, validate_add16_valid_iff, h.length_eq]
  by_cases hsummed : i < l.length - 2
  · rw [h.slice_eq (.inl hsummed), ← hv]
    exact (h.slice_differsAt (Nat.zero_le _) hsummed).sum_ne
  · rw [h.slice_eq (a := 0) (.inr (Nat.not_lt.1 hsummed)), hv]
    exact (h.slice_differsAt (Nat.not_lt.1 hsummed) hi).be_ne.symm

theorem validate_xor8_valid_iff {l : List Byte} :
    validate .xor8 l = .valid ↔ textShape l = true ∧ writtenXor l = some (xor8 l).toNat := by
  rw [validate, validateXor8]
  cases textShape l <;> simp

theorem writtenXor_of_digits {l : List Byte} {h1 h2 : Nat} (hd1 : digitAt l (l.length - 4) = some h1)
    (hd2 : digitAt l (l.length - 3) = some h2) : writtenXor l = some (16 * h1 + h2) := by
  rw [writtenXor, hd1, hd2]

/-- What a valid line has at each position after its body, up to the last byte (R153, R155). -/
theorem validate_xor8_valid {l : List Byte} (hv : validate .xor8 l = .valid) :
    6 ≤ l.length ∧ l[l.length - 5]? = some 0x2A#8 ∧ l[l.length - 2]? = some 0x0D#8 ∧
      ∃ h1 h2, digitAt l (l.length - 4) = some h1 ∧ digitAt l (l.length - 3) = some h2 ∧
        16 * h1 + h2 = (xor8 l).toNat := by
  obtain ⟨hshape, hwritten⟩ := validate_xor8_valid_iff.1 hv
  obtain ⟨hlen, hcr, hstar, -, h1, h2, hd1, hd2⟩ := textShape_iff.1 hshape
  rw [writtenXor_of_digits hd1 hd2] at hwritten
  exact ⟨hlen, hstar, hcr, h1, h2, hd1, hd2, Option.some.inj hwritten⟩

theorem digitAt_lt {l : List Byte} {k h : Nat} (hd : digitAt l k = some h) : h < 16 := by
  obtain ⟨d, -, hv⟩ := digitAt_eq_some_iff.1 hd
  unfold digitValue at hv
  omega

/-- Digits of one value are one byte (R152). -/
theorem getElem?_eq_of_digitAt {l l' : List Byte} {k h : Nat} (hd : digitAt l k = some h)
    (hd' : digitAt l' k = some h) : l'[k]? = l[k]? := by
  obtain ⟨d, hd, hv⟩ := digitAt_eq_some_iff.1 hd
  obtain ⟨d', hd', hv'⟩ := digitAt_eq_some_iff.1 hd'
  rw [hd, hd', digitValue_inj hv hv']

theorem DiffersAt.digitAt_eq {l l' : List Byte} {i k : Nat} (h : DiffersAt l l' i) (hk : k ≠ i) :
    digitAt l' k = digitAt l k := by
  rw [digitAt, digitAt, h.agree k hk]

/-- R158 for XOR8, where neither the first byte nor the last is the changed one: a changed body has another XOR for the
same digits, and the four bytes after an unchanged body can be no others. -/
theorem DiffersAt.not_valid_xor8 {l l' : List Byte} {i : Nat} (h : DiffersAt l l' i) (hfirst : 1 ≤ i)
    (hlast : i + 1 < l.length) (hv : validate .xor8 l = .valid) : validate .xor8 l' ≠ .valid := by
  intro hv'
  obtain ⟨hlen, hstar, hcr, h1, h2, hd1, hd2, hx⟩ := validate_xor8_valid hv
  obtain ⟨-, hstar', hcr', k1, k2, hk1, hk2, hx'⟩ := validate_xor8_valid hv'
  rw [h.length_eq] at hstar' hcr' hk1 hk2
  by_cases hbody : i < l.length - 5
  · have hxor : xor8 l' ≠ xor8 l := by
      rw [xor8, xor8, textBody, textBody, h.length_eq]
      exact (h.slice_differsAt hfirst hbody).xor_ne
    rw [h.digitAt_eq (by omega), hd1, Option.some.injEq] at hk1
    rw [h.digitAt_eq (by omega), hd2, Option.some.injEq] at hk2
    exact hxor (BitVec.eq_of_toNat_eq (by omega))
  · have hxor : xor8 l' = xor8 l := by
      rw [xor8, xor8, textBody, textBody, h.length_eq, h.slice_eq (.inr (Nat.not_lt.1 hbody))]
    have hlow := digitAt_lt hd2
    have hlow' := digitAt_lt hk2
    rw [hxor] at hx'
    obtain rfl : k1 = h1 := by omega
    obtain rfl : k2 = h2 := by omega
    refine h.differ ?_
    obtain rfl | rfl | rfl | rfl :
        i = l.length - 5 ∨ i = l.length - 4 ∨ i = l.length - 3 ∨ i = l.length - 2 := by omega
    · rw [hstar, hstar']
    · exact getElem?_eq_of_digitAt hd1 hk1
    · exact getElem?_eq_of_digitAt hd2 hk2
    · rw [hcr, hcr']

/-- Settles O42: the changed byte is not of the pattern, so it is not the first; the rest is each strategy's. -/
theorem oneWrongByteIsNeverValid : Obligations.OneWrongByteIsNeverValid := by
  unfold Obligations.OneWrongByteIsNeverValid
  intro s l l' i hlegal hbegin hbegin' hlen _ hi hagree hdiffer hlast hv
  have h : DiffersAt l l' i := ⟨hlen, hagree, hdiffer⟩
  obtain ⟨hpat, -⟩ := State.legal_parts hlegal
  have hfirst : 1 ≤ i := by
    by_contra h0
    exact hdiffer ((hbegin' i (hlen ▸ hi) (by omega)).trans (hbegin i hi (by omega)).symm)
  cases hm : s.mode with
  | text =>
    have halg : s.algorithm = .xor8 := by rw [State.algorithm, hm]
    rw [halg] at hv ⊢
    exact h.not_valid_xor8 hfirst (hlast hm) hv
  | _ =>
    have halg : s.algorithm = .add16 := by rw [State.algorithm, hm]
    rw [halg] at hv ⊢
    exact h.not_valid_add16 hi hv

end Sys2Proof.Machine
end

section
/-! PROOF. Host reads (43_host_access.md): the descriptor of each read, the value it hands back as arithmetic on the
stored fields (R172 to R191, R193, R195), and that nothing else changes. -/
namespace Sys2Proof.Machine

/-! ## The read views as arithmetic (R34 to R47) -/

/-- A field with zeros above it. -/
theorem toNat_zero_append {m : Nat} (n : Nat) (x : BitVec m) : (0#n ++ x).toNat = x.toNat := by
  rw [toNat_append_add, BitVec.toNat_ofNat, Nat.zero_mod, Nat.zero_mul, Nat.zero_add]

theorem State.ctrlWord_toNat (s : State) : s.ctrlWord.toNat = s.en.toNat :=
  (toNat_zero_append 31 _).trans (BitVec.toNat_ofBool _)

theorem State.frameCfgWord_toNat (s : State) :
    s.frameCfgWord.toNat = s.frameCfg.mode.toNat + 16 * s.frameCfg.patLen.toNat := by
  simp only [State.frameCfgWord, toNat_append_add, BitVec.toNat_ofNat]
  omega

theorem State.lenCfgWord_toNat (s : State) : s.lenCfgWord.toNat =
    s.lenCfg.lenOff.toNat + 2 ^ 8 * s.lenCfg.lenW.toNat + 2 ^ 16 * s.lenCfg.lenBias.toNat := by
  simp only [State.lenCfgWord, toNat_append_add, BitVec.toNat_ofNat]
  omega

/-- `STATUS.STATE` by its code: the first line of R40 that applies. -/
theorem State.engineState_code (s : State) : s.engineState.code =
    if s.fault then 4#3 else if s.en = false then 0#3 else if s.ready then 3#3
      else if s.scan < s.frameCfg.patLen.toNat then 1#3 else 2#3 := by
  simp only [State.engineState, apply_ite EngineState.code, Bool.not_eq_true']
  rfl

/-- Bits 7:5 of a STATUS read are 0 (R34). -/
theorem State.statusWord_reserved (s : State) : s.statusWord.extractLsb' 5 3 = 0#3 := by
  have h1 := Bool.toNat_le s.ready
  have h2 := Bool.toNat_le s.fault
  have h3 := Bool.toNat_le s.invalid
  have h4 := Bool.toNat_le s.resync
  have h5 := Bool.toNat_le s.cfgErr
  exact extract_of_div (by rw [State.statusWord_toNat, BitVec.toNat_ofNat]; omega)

theorem Params.legal_iff (p : Params) :
    p.legal = true ↔ 8 ≤ p.maxFrame ∧ p.maxFrame ≤ 1024 ∧ p.maxFrame % 4 = 0 := by
  simp only [Params.legal, Bool.and_eq_true, decide_eq_true_eq, and_assoc]

/-- The bytes held fit the 16-bit views of their counts: `MAX_FRAME` is at most 1024 (R7, R50; log 16). -/
theorem State.Inv.buf_lt {s : State} (h : s.Inv) : s.buf.length < 2 ^ 16 := by
  obtain ⟨-, hmax, -⟩ := (Params.legal_iff _).1 h.params_legal
  have := h.buf_le
  omega

/-- PENDING and SCAN together count the bytes held (R42). -/
theorem State.Inv.pending_add_scan {s : State} (h : s.Inv) :
    (BitVec.ofNat 16 s.pending).toNat + s.scan = s.buf.length := by
  have hle := h.scan_le
  have hlt := h.buf_lt
  rw [BitVec.toNat_ofNat, State.pending]
  omega

/-- FRAME_LEN reads 0 while no frame is ready (R43). -/
theorem State.frameLenWord_of_unready {s : State} (h : s.ready = false) : s.frameLenWord = 0#32 := by
  simp [State.frameLenWord, State.frameLen, h]

/-- FRAME_LEN reads SCAN while a frame is ready (R43). -/
theorem State.Inv.frameLenWord_toNat {s : State} (h : s.Inv) (hr : s.ready = true) :
    s.frameLenWord.toNat = s.scan := by
  have hle := h.scan_le
  have hlt := h.buf_lt
  rw [State.frameLenWord, toNat_zero_append, BitVec.toNat_ofNat, State.frameLen, if_pos hr]
  omega

theorem State.frameLenWord_high (s : State) : s.frameLenWord.extractLsb' 16 16 = 0#16 := by
  refine extract_of_div ?_
  rw [State.frameLenWord, toNat_zero_append, BitVec.toNat_ofNat, BitVec.toNat_ofNat]
  omega

theorem State.capsWord_toNat {s : State} (h : s.params.legal = true) :
    s.capsWord.toNat = 2 ^ 16 * 8 + s.params.maxFrame := by
  obtain ⟨-, hmax, -⟩ := (Params.legal_iff _).1 h
  simp only [State.capsWord, Config.maxPat, toNat_append_add, BitVec.toNat_ofNat]
  omega

/-! ## The FRAME window (R47, R195) -/

/-- Byte `j` of window word `k` is window byte 4k + j. -/
theorem State.winWord_byte (s : State) (k : BitVec 8) {j : Nat} (hj : j < 4) :
    (s.winWord k).extractLsb' (8 * j) 8 = s.winByte (4 * k.toNat + j) := by
  have h0 := (s.winByte (4 * k.toNat)).isLt
  have h1 := (s.winByte (4 * k.toNat + 1)).isLt
  have h2 := (s.winByte (4 * k.toNat + 2)).isLt
  have h3 := (s.winByte (4 * k.toNat + 3)).isLt
  refine extract_of_div ?_
  simp only [State.winWord, toNat_append_add]
  interval_cases j
  · rw [Nat.mul_zero, Nat.pow_zero, Nat.div_one, Nat.add_zero (4 * k.toNat)]
    omega
  all_goals omega

/-- A window byte within the ready frame is the frame's. -/
theorem State.winByte_of_ready {s : State} {n : Nat} {b : Byte} (hr : s.ready = true) (hn : n < s.scan)
    (hb : s.buf[n]? = some b) : s.winByte n = b := by
  simp [State.winByte, hr, hn, hb]

/-- A window byte beyond the ready frame, or with none ready, is 0x00. -/
theorem State.winByte_of_hidden {s : State} {n : Nat} (h : ¬(s.ready = true ∧ n < s.scan)) :
    s.winByte n = 0x00#8 :=
  if_neg (by rwa [Bool.and_eq_true, decide_eq_true_iff])

/-- Settles O16: the offset is window word `k`'s, and each byte of the word read is the window byte of its index. -/
theorem windowReadsShowTheReadyFrame : Obligations.WindowReadsShowTheReadyFrame := by
  unfold Obligations.WindowReadsShowTheReadyFrame
  intro s k
  refine ⟨fun addr data haddr => ?_, s.winWord k, exec_of_readValue rfl, fun j hj => ?_⟩
  · obtain rfl : addr = windowOffset k := BitVec.eq_of_toNat_eq (haddr.trans (windowOffset_toNat k).symm)
    exact (decode_host data (windowOffset_facts k).1).trans (decodeRead_window k)
  · rw [State.winWord_byte s k hj]
    exact ⟨fun hr hn b hb => State.winByte_of_ready hr hn hb, State.winByte_of_hidden⟩

/-! ## Unmapped offsets (R193, R194) -/

/-- The two ranges of R193 lie outside the register map. -/
theorem unmapped_of_ranges {addr : Offset} (h : addr.toNat % 4 = 0)
    (hr : (0x030 ≤ addr.toNat ∧ addr.toNat ≤ 0x3FC) ∨ (0x800 ≤ addr.toNat ∧ addr.toNat ≤ 0xFFC)) :
    addr.unmapped = true := by
  simp only [Offset.unmapped, Offset.aligned, Offset.mapped, Bool.and_eq_true, Bool.not_eq_true',
    Bool.or_eq_false_iff, Bool.and_eq_false_iff, decide_eq_true_iff, decide_eq_false_iff_not]
  omega

/-- Settles O18: offsets of the two ranges are unmapped, and the catch-all rows take them. -/
theorem unmappedOffsetsReadZeroAndIgnoreWrites : Obligations.UnmappedOffsetsReadZeroAndIgnoreWrites := by
  unfold Obligations.UnmappedOffsetsReadZeroAndIgnoreWrites
  intro s addr data h hr
  have hun := unmapped_of_ranges h hr
  exact ⟨(decode_host data h).trans (decodeRead_unmapped hun),
    (decode_host data h).trans (decodeWrite_unmapped data hun), exec_of_readValue rfl, rfl⟩

/-! ## The registers (R172 to R191) -/

/-- Settles O13: CTRL and IRQ_EN are one field each, and STATUS is read field by field. -/
theorem controlAndStatusReads : Obligations.ControlAndStatusReads := by
  unfold Obligations.ControlAndStatusReads
  refine ⟨fun data => ⟨decode_host data (by decide), decode_host data (by decide), decode_host data (by decide),
    decode_host data (by decide)⟩, fun s => ⟨⟨_, exec_of_readValue rfl, s.ctrlWord_toNat⟩,
    exec_of_readValue rfl, ⟨_, exec_of_readValue rfl, toNat_zero_append 27 _⟩, s.statusWord,
    exec_of_readValue rfl, ?_⟩⟩
  obtain ⟨hready, hfault, hinvalid, hresync, hcfgErr, h11⟩ := s.statusWord_bits
  have hstate := s.statusWord_state.trans s.engineState_code
  refine ⟨hready, hfault, hinvalid, hresync, hcfgErr, s.statusWord_reserved, hstate, h11, s.statusWord_cause,
    s.statusWord_pending, fun hinv => ?_⟩
  rw [s.statusWord_pending]
  exact hinv.pending_add_scan

/-- Settles O14: each read hands back the view of its register. -/
theorem configurationReads : Obligations.ConfigurationReads := by
  unfold Obligations.ConfigurationReads
  exact ⟨fun data => ⟨decode_host data (by decide), decode_host data (by decide), decode_host data (by decide),
      decode_host data (by decide), decode_host data (by decide), decode_host data (by decide)⟩,
    fun s => ⟨⟨_, exec_of_readValue rfl, s.frameCfgWord_toNat⟩, exec_of_readValue rfl, exec_of_readValue rfl,
      ⟨_, exec_of_readValue rfl, toNat_zero_append 16 _⟩, ⟨_, exec_of_readValue rfl, toNat_zero_append 16 _⟩,
      ⟨_, exec_of_readValue rfl, s.lenCfgWord_toNat⟩⟩⟩

/-- Settles O15: SCAN and MAX_FRAME fit their 16 bits, since MAX_FRAME is at most 1024. -/
theorem frameLengthAndCapsReads : Obligations.FrameLengthAndCapsReads := by
  unfold Obligations.FrameLengthAndCapsReads
  exact ⟨fun data => ⟨decode_host data (by decide), decode_host data (by decide)⟩,
    fun s => ⟨⟨_, exec_of_readValue rfl, State.frameLenWord_of_unready, State.Inv.frameLenWord_toNat,
      s.frameLenWord_high⟩, _, exec_of_readValue rfl, State.capsWord_toNat⟩⟩

end Sys2Proof.Machine
end

section
/-! PROOF. Host writes (43_host_access.md): the descriptor of each write, and its whole effect (R170, R171, R173, R177
to R189, R192, R204). -/
namespace Sys2Proof.Machine

/-! ## CTRL (R171) -/

theorem execWrCtrl_enables {s : State} {data : Word} (off : s.en = false) (bit : data.getLsbD 0 = true)
    (legal : s.legal = true) : execWrCtrl data s = .next { s with en := true } := by
  simp only [execWrCtrl, off, bit, legal, Bool.not_false, Bool.and_self, if_true]

theorem execWrCtrl_fails {s : State} {data : Word} (off : s.en = false) (bit : data.getLsbD 0 = true)
    (illegal : s.legal = false) : execWrCtrl data s = .next { s with cfgErr := true } := by
  simp only [execWrCtrl, off, bit, illegal, Bool.not_false, Bool.and_self, if_true, Bool.false_eq_true, if_false]

theorem execWrCtrl_aborts {s : State} {data : Word} (on : s.en = true) (bit : data.getLsbD 0 = false) :
    execWrCtrl data s = .next { s with en := false, buf := [], scan := 0, ready := false } := by
  simp only [execWrCtrl, on, bit, Bool.not_true, Bool.not_false, Bool.and_self, Bool.false_eq_true, if_false, if_true]
  rfl

/-- A write of the value `EN` has is neither an enable nor an abort. -/
theorem execWrCtrl_ignored {s : State} {data : Word} (same : s.en = data.getLsbD 0) :
    execWrCtrl data s = .next s := by
  simp only [execWrCtrl, same, Bool.not_and_self, Bool.and_not_self, Bool.false_eq_true, if_false]

/-- Settles O21: the four cases of R171. -/
theorem ctrlWriteEnablesAborts : Obligations.CtrlWriteEnablesAborts := by
  unfold Obligations.CtrlWriteEnablesAborts
  exact fun s data => ⟨decode_host data (by decide), execWrCtrl_enables, execWrCtrl_fails, execWrCtrl_aborts,
    execWrCtrl_ignored⟩

/-! ## STATUS and IRQ_EN (R173, R177) -/

/-- The lowest `n` bits of a word, by value. -/
theorem extract_low_toNat {w : Nat} (v : BitVec w) (n : Nat) : (v.extractLsb' 0 n).toNat = v.toNat % 2 ^ n := by
  rw [extract_toNat, Nat.pow_zero, Nat.div_one]

/-- A sticky bit survives a write exactly where the bit written is 0. -/
theorem and_not_eq_true_iff (sticky written : Bool) :
    (sticky && !written) = true ↔ sticky = true ∧ written = false := by
  rw [Bool.and_eq_true, Bool.not_eq_true']

/-- Settles O23: a STATUS write acknowledges, bit by bit, and an IRQ_EN write stores its field. -/
theorem statusAndInterruptEnableWrites : Obligations.StatusAndInterruptEnableWrites := by
  unfold Obligations.StatusAndInterruptEnableWrites
  exact fun s data => ⟨decode_host data (by decide), decode_host data (by decide),
    ⟨s.acknowledge data, rfl, rfl, and_not_eq_true_iff _ _, and_not_eq_true_iff _ _, and_not_eq_true_iff _ _⟩,
    ⟨_, rfl, rfl, extract_low_toNat data 5⟩⟩

/-! ## The configuration (R170, R179 to R189) -/

/-- Settles O24: the lock keeps the state or lets the write through, and what is stored are fields of DATA. -/
theorem configurationWritesStoreTheirFieldsOrAreLocked :
    Obligations.ConfigurationWritesStoreTheirFieldsOrAreLocked := by
  unfold Obligations.ConfigurationWritesStoreTheirFieldsOrAreLocked
  intro s data
  refine ⟨⟨decode_host data (by decide), decode_host data (by decide), decode_host data (by decide),
    decode_host data (by decide), decode_host data (by decide), decode_host data (by decide)⟩, fun off => ?_,
    fun on => ?_⟩
  · have stores (stored : State) : (Host.Outcome.next (s.unlessEnabled stored) : Host.Outcome State Fault Refusal) =
        .next stored := congrArg _ (State.unlessEnabled_open off)
    exact ⟨⟨_, stores _, rfl, extract_low_toNat data 2, extract_toNat data 4 4⟩, stores _, stores _,
      ⟨_, stores _, rfl, extract_low_toNat data 16⟩, ⟨_, stores _, rfl, extract_low_toNat data 16⟩,
      ⟨_, stores _, rfl, extract_low_toNat data 8, extract_toNat data 8 1, extract_toNat data 16 8⟩⟩
  · have locked (stored : State) : (Host.Outcome.next (s.unlessEnabled stored) : Host.Outcome State Fault Refusal) =
        .next s := congrArg _ (State.unlessEnabled_locked on)
    exact ⟨locked _, locked _, locked _, locked _, locked _, locked _⟩

/-! ## Ignored writes (R192, R204) -/

/-- The codes other than those of the three commands are reserved (R87). -/
theorem reservedCode_of_ne {code : BitVec 4} (h1 : code ≠ 0x1#4) (h2 : code ≠ 0x2#4) (hF : code ≠ 0xF#4) :
    reservedCode code = true := by
  simp only [reservedCode, h1, h2, hF, ne_eq, not_false_eq_true, decide_true, Bool.and_self]

/-- Settles O26: each descriptor decodes to an operation whose meaning is the unchanged state. -/
theorem ignoredWritesChangeNothing : Obligations.IgnoredWritesChangeNothing := by
  unfold Obligations.IgnoredWritesChangeNothing
  intro s data k code h1 h2 hF
  refine ⟨decode_host data (by decide), decode_host data (by decide),
    (decode_host data (windowOffset_facts k).1).trans (decodeWrite_window k data), ?_, rfl, rfl, rfl, rfl⟩
  rintro rfl
  exact (decode_host data (by decide)).trans (decodeCommand_reserved (reservedCode_of_ne h1 h2 hF))

end Sys2Proof.Machine
end

section
/-! PROOF. Commands (44_commands.md): which operation a `CMD` write decodes to, and the whole effect of ACCEPT (R201),
REJECT (R202) and the soft reset (R203). -/
namespace Sys2Proof.Machine

/-- A `CMD` write decodes by the low four bits of DATA alone (R87). -/
theorem decode_cmdWrite {data : Word} {code : BitVec 4} (h : data.extractLsb' 0 4 = code) :
    decode (hostDescriptor true 0x008#12 data) = decodeCommand code :=
  (decode_host data (by decide)).trans (congrArg decodeCommand h)

/-! ## ACCEPT (R201) -/

theorem execCmdAccept_releases {s : State} (ready : s.ready = true) :
    execCmdAccept s = .next { s with buf := s.buf.drop s.scan, scan := 0, ready := false } :=
  if_pos ready

theorem execCmdAccept_ignored {s : State} (unready : s.ready = false) : execCmdAccept s = .next s := by
  rw [execCmdAccept, unready, if_neg Bool.false_ne_true]

/-- Settles O28: with a frame ready ACCEPT releases it, otherwise it is ignored. -/
theorem acceptReleasesTheFrame : Obligations.AcceptReleasesTheFrame := by
  unfold Obligations.AcceptReleasesTheFrame
  exact ⟨fun _ code => decode_cmdWrite code, fun _ => ⟨execCmdAccept_releases, execCmdAccept_ignored⟩⟩

/-! ## REJECT (R202) -/

/-- REJECT of a ready frame without a fault takes cause REJECT, which resumes at the second byte. -/
theorem execCmdReject_rejects {s : State} (ready : s.ready = true) (working : s.fault = false) :
    execCmdReject s = .next { s with
      buf := s.buf.drop 1, scan := 0, ready := false, invalid := true, lastCause := .reject } := by
  have rejects : (s.ready && !s.fault) = true := by rw [ready, working]; rfl
  rw [execCmdReject, if_pos rejects, State.takeCause_reject]

theorem execCmdReject_drops {s : State} (ready : s.ready = true) (faulted : s.fault = true) :
    execCmdReject s = .next { s with buf := [], scan := 0, ready := false } := by
  have keeps : ¬(s.ready && !s.fault) = true := by rw [ready, faulted]; decide
  rw [execCmdReject, if_neg keeps, if_pos ready]
  rfl

theorem execCmdReject_ignored {s : State} (unready : s.ready = false) : execCmdReject s = .next s := by
  rw [execCmdReject, unready, Bool.false_and, if_neg Bool.false_ne_true, if_neg Bool.false_ne_true]

/-- Settles O29: the three cases of R202. -/
theorem rejectResumesAtTheSecondByte : Obligations.RejectResumesAtTheSecondByte := by
  unfold Obligations.RejectResumesAtTheSecondByte
  exact ⟨fun _ code => decode_cmdWrite code,
    fun _ => ⟨execCmdReject_rejects, execCmdReject_drops, execCmdReject_ignored⟩⟩

/-! ## The soft reset (R203) -/

/-- Settles O30: `State.softReset` writes the runtime values and no other field. -/
theorem softResetKeepsTheConfiguration : Obligations.SoftResetKeepsTheConfiguration := by
  unfold Obligations.SoftResetKeepsTheConfiguration
  exact ⟨fun _ code => decode_cmdWrite code, fun _ => rfl⟩

end Sys2Proof.Machine
end

section
/-! PROOF. Causes and interrupts (60_exceptions.md): what clears each interrupt source (R226), and what records a
cause in LAST_CAUSE (R220). -/
namespace Sys2Proof.Machine

/-! ## What clears the interrupt sources (R226) -/

/-- A bit that is set before a step only if it is set after it does not fall. -/
theorem not_falls {a b : Bool} {p : Prop} (h : a = true → b = true) (ha : a = true) (hb : b = false) : p :=
  not_rises h hb ha

/-- A sticky bit that an acknowledging write clears is one the write has a 1 for. -/
theorem written_of_acknowledged {sticky written : Bool} (up : sticky = true)
    (down : (sticky && !written) = false) : written = true := by
  rwa [up, Bool.true_and, Bool.not_eq_false'] at down

/-- READY falls by the host's release of the frame or by what discards it; no engine step runs while it is 1. -/
theorem Effect.ready_falls {i : Instr} {s t : State} (e : Effect i s t) (up : s.ready = true)
    (down : t.ready = false) :
    i = .cmdAccept ∨ i = .cmdReject ∨ i = .cmdSoftReset ∨
      ∃ data, i = .wrCtrl data ∧ data.getLsbD 0 = false ∧ s.en = true := by
  cases e with
  | accept => exact .inl rfl
  | reject | rejectFaulted => exact .inr (.inl rfl)
  | softReset => exact .inr (.inr (.inl rfl))
  | disable on bit => exact .inr (.inr (.inr ⟨_, rfl, bit, on⟩))
  | engine completes =>
    rw [execEngineStep_stuck (State.engineEnabled_of_ready up)] at completes
    cases completes
  | _ => exact not_falls id up down

/-- Only a soft reset and the acknowledging write clear a sticky bit; the other effects keep it or set it. -/
theorem Effect.sticky_falls {i : Instr} {s t : State} (e : Effect i s t) :
    (s.invalid = true → t.invalid = false →
      i = .cmdSoftReset ∨ ∃ data, i = .wrStatus data ∧ data.getLsbD 2 = true) ∧
    (s.resync = true → t.resync = false →
      i = .cmdSoftReset ∨ ∃ data, i = .wrStatus data ∧ data.getLsbD 3 = true) ∧
    (s.cfgErr = true → t.cfgErr = false →
      i = .cmdSoftReset ∨ ∃ data, i = .wrStatus data ∧ data.getLsbD 4 = true) := by
  cases e with
  | softReset => exact ⟨fun _ _ => .inl rfl, fun _ _ => .inl rfl, fun _ _ => .inl rfl⟩
  | acknowledge =>
    exact ⟨fun up down => .inr ⟨_, rfl, written_of_acknowledged up down⟩,
      fun up down => .inr ⟨_, rfl, written_of_acknowledged up down⟩,
      fun up down => .inr ⟨_, rfl, written_of_acknowledged up down⟩⟩
  | enableFails => exact ⟨not_falls id, not_falls id, nofun⟩
  | reject => exact ⟨nofun, not_falls id, not_falls id⟩
  | timeout => exact ⟨not_falls id, nofun, not_falls id⟩
  | engine completes =>
    obtain ⟨-, rfl | rfl | rfl | ⟨c, -, rfl⟩⟩ := execEngineStep_shape completes
    case inr.inr.inr => exact ⟨nofun, not_falls id, not_falls id⟩
    all_goals exact ⟨not_falls id, not_falls id, not_falls id⟩
  | _ => exact ⟨not_falls id, not_falls id, not_falls id⟩

/-- Settles O44: each source falls only by the effects that its row of R226 lists. -/
theorem interruptSourcesClearOnlyAsListed : Obligations.InterruptSourcesClearOnlyAsListed := by
  unfold Obligations.InterruptSourcesClearOnlyAsListed
  intro i s t h
  have e := effect_of_exec h
  exact ⟨e.ready_falls, e.keeps_fault.2, e.sticky_falls⟩

/-! ## What records a cause (R220) -/

theorem Cause.rejects_iff (c : Cause) :
    c.rejects = true ↔ c = .checksum ∨ c = .format ∨ c = .length ∨ c = .overflow :=
  decide_eq_true_iff

/-- Settles O45: an effect keeps LAST_CAUSE, or it records its row's cause and sets the row's bit; an engine step
records one only where it rejects the candidate. -/
theorem causesAreRecordedOnlyAsListed : Obligations.CausesAreRecordedOnlyAsListed := by
  unfold Obligations.CausesAreRecordedOnlyAsListed
  intro i s t h changed
  cases effect_of_exec h with
  | engine completes =>
    obtain ⟨-, rfl | rfl | rfl | ⟨c, rejects, rfl⟩⟩ := execEngineStep_shape completes
    case inr.inr.inr => exact .inl ⟨rfl, rfl, c.rejects_iff.1 rejects⟩
    all_goals exact absurd rfl changed
  | reject => exact .inr (.inl ⟨rfl, rfl, rfl⟩)
  | timeout => exact .inr (.inr (.inl ⟨rfl, rfl, rfl⟩))
  | faultReady | faultUnready => exact .inr (.inr (.inr (.inl ⟨rfl, rfl, rfl⟩)))
  | softReset => exact .inr (.inr (.inr (.inr ⟨rfl, rfl⟩)))
  | _ => exact absurd rfl changed

end Sys2Proof.Machine
end

section
/-! PROOF. The hardware reset (70_reset_and_hazards.md R250), with what the host reads and the platform sees after it
(10_state.md R56), and the states in which a run can end (R265). -/
namespace Sys2Proof.Machine

/-! ## The hardware reset (R250) -/

theorem step_hardwareReset {s : State} {rest : List Event} (h : s.trace = .hardwareReset :: rest) :
    step s = .next (s.withTrace rest).hardwareReset := by
  rw [step, h]

/-- Nothing is ready in a block that holds nothing, so the window shows no byte (R47). -/
theorem State.winWord_of_unready {s : State} (h : s.ready = false) (k : BitVec 8) : s.winWord k = 0#32 := by
  have hidden (n : Nat) : s.winByte n = 0x00#8 := State.winByte_of_hidden (by simp [h])
  rw [State.winWord, hidden, hidden, hidden, hidden]
  rfl

@[simp] theorem State.hardwareReset_engineState (s : State) : s.hardwareReset.engineState = .idle := rfl

/-- Every field of STATUS is 0 (R34). -/
@[simp] theorem State.hardwareReset_statusWord (s : State) : s.hardwareReset.statusWord = 0#32 :=
  BitVec.eq_of_toNat_eq (by simp [State.statusWord_toNat, State.pending, EngineState.code, Cause.code])

@[simp] theorem State.hardwareReset_rxReady (s : State) : s.hardwareReset.rxReady = false := rfl

/-- With IRQ_EN clear no source is enabled (R49). -/
@[simp] theorem State.hardwareReset_irq (s : State) : s.hardwareReset.irq = false := by
  simp [State.irq]

/-- Settles O10: the step is the hardware reset, whose fields are R56's column; the reads follow from READY = 0 and
`irq` from IRQ_EN = 0. -/
theorem hardwareResetStepResetsEverything : Obligations.HardwareResetStepResetsEverything := by
  unfold Obligations.HardwareResetStepResetsEverything
  intro s rest h
  refine ⟨_, step_hardwareReset h, ?_⟩
  have unready : (s.withTrace rest).hardwareReset.ready = false := State.hardwareReset_ready _
  simp [State.frameLenWord_of_unready unready, State.winWord_of_unready unready]

/-! ## The states in which a run ends (R265) -/

/-- Settles O58: by the invariant, an enabled block without a fault or a ready frame has examined all it holds once no
engine step is enabled, and so it asks for a byte. -/
theorem quiescentStatesAreOfFourKinds : Obligations.QuiescentStatesAreOfFourKinds := by
  unfold Obligations.QuiescentStatesAreOfFourKinds
  exact fun _ inv stopped => inv.waits_of_stopped stopped

end Sys2Proof.Machine
end

section
/-! PROOF. What the hardware reset keeps: the fields that are the model's own (R56 gives none of them a reset
value; log 11). -/
namespace Sys2Proof.Machine

/-- Settles O11: the step answers the hardware reset of the state whose trace is the rest, and neither of the two
writes a parameter, the record of reads or the history flag. -/
theorem hardwareResetKeepsTheModelsOwnFields : Obligations.HardwareResetKeepsTheModelsOwnFields := by
  unfold Obligations.HardwareResetKeepsTheModelsOwnFields
  intro s t rest h stepped
  obtain rfl : (s.withTrace rest).hardwareReset = t :=
    Host.Outcome.next.inj ((step_hardwareReset h).symm.trans stepped)
  simp

end Sys2Proof.Machine
end
